-- ==== Sys2Proof/Word.lean ====
section
/-! DEFINITION. The word types of the WRX core: 32-bit register words and bytes (R9, R11), and the
pair of integers that a complex value is (R14). -/

namespace Sys2Proof

/-- A register word or a host data word: 32 bits (R9). -/
abbrev Word := BitVec 32

/-- A packet byte (R340). -/
abbrev Byte := BitVec 8

/-- A complex value: a pair of exact integers (R14). -/
structure Cplx where
  re : Int
  im : Int
  deriving DecidableEq, Repr

/-- The complex zero, the value of every history entry after DEMOD_INIT (R150). -/
def Cplx.zero : Cplx := ⟨0, 0⟩

end Sys2Proof
end

