-- ==== Sys2Proof/Syntax.lean ====
section
/-! DEFINITION. Syntax: the instructions of the WRX core, one constructor per row of spec/opcode_table.json (the CMD words
of R301 and the BUS access keys of R300 and R400), and the two formats that carry them into the core. -/

namespace Sys2Proof

/-- The kind of a host request (R204): R or W. -/
inductive Kind where
  | read
  | write
  deriving DecidableEq, Repr

/-- What an access carries besides its offset: a read carries nothing, a write its data word, since wdata is "used only
when kind = W" (R204). -/
inductive Access where
  | read
  | write (wdata : Word)
  deriving DecidableEq, Repr

/-- A host request `(kind, off, size, wdata)` (R204). -/
structure Request where
  kind : Kind
  off : BitVec 13
  size : Nat
  wdata : Word
  deriving DecidableEq, Repr

/-- The two formats of R300 that carry operations into the core. A CMD word is the data of BUS key 0x2008, so `cmd w` and
`bus (W, 0x008, 4, w)` are two spellings of one access (R300, R360; log 17). -/
inductive HostOp where
  | cmd (w : Word)
  | bus (r : Request)
  deriving DecidableEq, Repr

/-- The eight commands of R301. -/
inductive Command where
  | nop
  | softReset
  | configure
  | start
  | stop
  | resync
  | clearCounters
  | flushPackets
  deriving DecidableEq, Repr

/-- The instructions: one constructor per row of the opcode table, in the table's order. A write carries its data word; a
row that covers a range of offsets carries the free offset bits; a row that covers reads and writes carries an `Access`. -/
inductive Instr where
  /-- NOP (R510). -/
  | nop
  /-- SOFT_RESET (R511). -/
  | softReset
  /-- CONFIGURE (R512). -/
  | configure
  /-- START (R520). -/
  | start
  /-- STOP (R521). -/
  | stop
  /-- RESYNC (R530). -/
  | resync
  /-- CLEAR_COUNTERS (R540). -/
  | clearCounters
  /-- FLUSH_PACKETS (R541). -/
  | flushPackets
  /-- CMD_ILLEGAL (R500). -/
  | cmdIllegal (w : Word)
  /-- RD_ID (R403). -/
  | rdId
  /-- WR_ID (R401). -/
  | wrId (wdata : Word)
  /-- RD_VERSION (R403). -/
  | rdVersion
  /-- WR_VERSION (R401). -/
  | wrVersion (wdata : Word)
  /-- RD_CMD (R402). -/
  | rdCmd
  /-- WR_CMD (R404). -/
  | wrCmd (wdata : Word)
  /-- RD_STATUS (R405). -/
  | rdStatus
  /-- WR_STATUS (R401). -/
  | wrStatus (wdata : Word)
  /-- RD_ERR (R406). -/
  | rdErr
  /-- WR_ERR (R407). -/
  | wrErr (wdata : Word)
  /-- RD_CFG_ERR (R408). -/
  | rdCfgErr
  /-- WR_CFG_ERR (R401). -/
  | wrCfgErr (wdata : Word)
  /-- RD_IRQ_STATUS (R409). -/
  | rdIrqStatus
  /-- WR_IRQ_STATUS (R410). -/
  | wrIrqStatus (wdata : Word)
  /-- RD_IRQ_ENABLE (R414). -/
  | rdIrqEnable
  /-- WR_IRQ_ENABLE (R414). -/
  | wrIrqEnable (wdata : Word)
  /-- RD_FS_HZ (R440). -/
  | rdFsHz
  /-- WR_FS_HZ (R440). -/
  | wrFsHz (wdata : Word)
  /-- RD_RS_HZ (R441). -/
  | rdRsHz
  /-- WR_RS_HZ (R441). -/
  | wrRsHz (wdata : Word)
  /-- RD_DEMOD_CFG (R442). -/
  | rdDemodCfg
  /-- WR_DEMOD_CFG (R442). -/
  | wrDemodCfg (wdata : Word)
  /-- RD_NSYM (R443). -/
  | rdNsym
  /-- WR_NSYM (R443). -/
  | wrNsym (wdata : Word)
  /-- RD_ACQ_CFG (R444). -/
  | rdAcqCfg
  /-- WR_ACQ_CFG (R444). -/
  | wrAcqCfg (wdata : Word)
  /-- RD_STATS_CFG (R445). -/
  | rdStatsCfg
  /-- WR_STATS_CFG (R445). -/
  | wrStatsCfg (wdata : Word)
  /-- RD_UW_CFG (R446). -/
  | rdUwCfg
  /-- WR_UW_CFG (R446). -/
  | wrUwCfg (wdata : Word)
  /-- RD_UW_LO (R447). -/
  | rdUwLo
  /-- WR_UW_LO (R447). -/
  | wrUwLo (wdata : Word)
  /-- RD_UW_HI (R448). -/
  | rdUwHi
  /-- WR_UW_HI (R448). -/
  | wrUwHi (wdata : Word)
  /-- RD_FRAME_GAP (R449). -/
  | rdFrameGap
  /-- WR_FRAME_GAP (R449). -/
  | wrFrameGap (wdata : Word)
  /-- RD_LDPC_NK (R450). -/
  | rdLdpcNk
  /-- WR_LDPC_NK (R450). -/
  | wrLdpcNk (wdata : Word)
  /-- RD_LDPC_ALG (R451). -/
  | rdLdpcAlg
  /-- WR_LDPC_ALG (R451). -/
  | wrLdpcAlg (wdata : Word)
  /-- RD_H_LEN (R452). -/
  | rdHLen
  /-- WR_H_LEN (R452). -/
  | wrHLen (wdata : Word)
  /-- RD_H_ADDR (R413). -/
  | rdHAddr
  /-- WR_H_ADDR (R413). -/
  | wrHAddr (wdata : Word)
  /-- RD_H_DATA (R412). -/
  | rdHData
  /-- WR_H_DATA (R411). -/
  | wrHData (wdata : Word)
  /-- RD_SAMPLE_DATA (R402). -/
  | rdSampleData
  /-- WR_SAMPLE_DATA (R420). -/
  | wrSampleData (wdata : Word)
  /-- RD_SAMP_COUNT (R421). -/
  | rdSampCount
  /-- WR_SAMP_COUNT (R401). -/
  | wrSampCount (wdata : Word)
  /-- RD_SAMP_FREE (R422). -/
  | rdSampFree
  /-- WR_SAMP_FREE (R401). -/
  | wrSampFree (wdata : Word)
  /-- RD_PKT_COUNT (R431). -/
  | rdPktCount
  /-- WR_PKT_COUNT (R401). -/
  | wrPktCount (wdata : Word)
  /-- RD_PKT_DATA (R430). -/
  | rdPktData
  /-- WR_PKT_DATA (R401). -/
  | wrPktData (wdata : Word)
  /-- RD_PKT_WORDS (R432). -/
  | rdPktWords
  /-- WR_PKT_WORDS (R401). -/
  | wrPktWords (wdata : Word)
  /-- RD_CNT_BLOCKS (R460). -/
  | rdCntBlocks
  /-- WR_CNT_BLOCKS (R401). -/
  | wrCntBlocks (wdata : Word)
  /-- RD_CNT_BITS (R461). -/
  | rdCntBits
  /-- WR_CNT_BITS (R401). -/
  | wrCntBits (wdata : Word)
  /-- RD_CNT_SYNC_ACQ (R462). -/
  | rdCntSyncAcq
  /-- WR_CNT_SYNC_ACQ (R401). -/
  | wrCntSyncAcq (wdata : Word)
  /-- RD_CNT_SYNC_LOSS (R463). -/
  | rdCntSyncLoss
  /-- WR_CNT_SYNC_LOSS (R401). -/
  | wrCntSyncLoss (wdata : Word)
  /-- RD_CNT_UW_MISS (R464). -/
  | rdCntUwMiss
  /-- WR_CNT_UW_MISS (R401). -/
  | wrCntUwMiss (wdata : Word)
  /-- RD_CNT_FRAMES (R465). -/
  | rdCntFrames
  /-- WR_CNT_FRAMES (R401). -/
  | wrCntFrames (wdata : Word)
  /-- RD_CNT_FEC_FAIL (R466). -/
  | rdCntFecFail
  /-- WR_CNT_FEC_FAIL (R401). -/
  | wrCntFecFail (wdata : Word)
  /-- RD_CNT_CRC_FAIL (R467). -/
  | rdCntCrcFail
  /-- WR_CNT_CRC_FAIL (R401). -/
  | wrCntCrcFail (wdata : Word)
  /-- RD_CNT_PKT_OK (R468). -/
  | rdCntPktOk
  /-- WR_CNT_PKT_OK (R401). -/
  | wrCntPktOk (wdata : Word)
  /-- RD_CNT_LOW_SIGNAL (R469). -/
  | rdCntLowSignal
  /-- WR_CNT_LOW_SIGNAL (R401). -/
  | wrCntLowSignal (wdata : Word)
  /-- RD_CNT_SAMP_DROP (R470). -/
  | rdCntSampDrop
  /-- WR_CNT_SAMP_DROP (R401). -/
  | wrCntSampDrop (wdata : Word)
  /-- RD_LAST_DECODE (R471). -/
  | rdLastDecode
  /-- WR_LAST_DECODE (R401). -/
  | wrLastDecode (wdata : Word)
  /-- RD_LAST_UW (R472). -/
  | rdLastUw
  /-- WR_LAST_UW (R401). -/
  | wrLastUw (wdata : Word)
  /-- RD_ST_SEQ (R480). -/
  | rdStSeq
  /-- WR_ST_SEQ (R401). -/
  | wrStSeq (wdata : Word)
  /-- RD_ST_F0 (R481). -/
  | rdStF0
  /-- WR_ST_F0 (R401). -/
  | wrStF0 (wdata : Word)
  /-- RD_ST_F1 (R482). -/
  | rdStF1
  /-- WR_ST_F1 (R401). -/
  | wrStF1 (wdata : Word)
  /-- RD_ST_TIMING (R483). -/
  | rdStTiming
  /-- WR_ST_TIMING (R401). -/
  | wrStTiming (wdata : Word)
  /-- RD_ST_NOUT (R484). -/
  | rdStNout
  /-- WR_ST_NOUT (R401). -/
  | wrStNout (wdata : Word)
  /-- RD_ST_SIG (R485). -/
  | rdStSig
  /-- WR_ST_SIG (R401). -/
  | wrStSig (wdata : Word)
  /-- RD_ST_NOISE (R486). -/
  | rdStNoise
  /-- WR_ST_NOISE (R401). -/
  | wrStNoise (wdata : Word)
  /-- RD_ST_EAVG (R487). -/
  | rdStEavg
  /-- WR_ST_EAVG (R401). -/
  | wrStEavg (wdata : Word)
  /-- RD_ST_FLAGS (R488). -/
  | rdStFlags
  /-- WR_ST_FLAGS (R401). -/
  | wrStFlags (wdata : Word)
  /-- RD_ST_PEAKS (R489). -/
  | rdStPeaks
  /-- WR_ST_PEAKS (R401). -/
  | wrStPeaks (wdata : Word)
  /-- RD_ST_BLOCK (R490). -/
  | rdStBlock
  /-- WR_ST_BLOCK (R401). -/
  | wrStBlock (wdata : Word)
  /-- RD_SPEC (R491). -/
  | rdSpec (k : BitVec 10)
  /-- WR_SPEC (R401). -/
  | wrSpec (k : BitVec 10) (wdata : Word)
  /-- RESERVED_0x05C (R400). -/
  | reserved05C (a : Access)
  /-- RESERVED_0x06C (R400). -/
  | reserved06C (a : Access)
  /-- RESERVED_0x07C (R400). -/
  | reserved07C (a : Access)
  /-- RESERVED_0x0B4 (R400). -/
  | reserved0B4 (a : Access)
  /-- RESERVED_0x0B8 (R400). -/
  | reserved0B8 (a : Access)
  /-- RESERVED_0x0BC (R400). -/
  | reserved0BC (a : Access)
  /-- RESERVED_0x0EC (R400). -/
  | reserved0EC (a : Access)
  /-- RESERVED_0x0F0_0x0FC (R400). -/
  | reserved0F0 (j : BitVec 2) (a : Access)
  /-- RESERVED_0x100_0x1FC (R400). -/
  | reserved100 (j : BitVec 6) (a : Access)
  /-- RESERVED_0x200_0x3FC (R400). -/
  | reserved200 (j : BitVec 7) (a : Access)
  /-- RESERVED_0x400_0x7FC (R400). -/
  | reserved400 (j : BitVec 8) (a : Access)
  /-- RESERVED_0x800_0xFFC (R400). -/
  | reserved800 (j : BitVec 9) (a : Access)
  /-- MISALIGNED_1 (R900). -/
  | misaligned1 (hi : BitVec 11) (a : Access)
  /-- MISALIGNED_2 (R900). -/
  | misaligned2 (hi : BitVec 11) (a : Access)
  /-- MISALIGNED_3 (R900). -/
  | misaligned3 (hi : BitVec 11) (a : Access)
  deriving DecidableEq, Repr

end Sys2Proof
end

