-- ==== Sys2Proof/Decode.lean ====
section
/-! DEFINITION. Decode: from a host operation to the instruction it carries (R300, R301, R302, R400), total, rejecting by
name; and the encoder, written from the same tables. -/

namespace Sys2Proof

/-- Why a host operation carries no instruction: a request whose size is not 4 "has no valid key" (R300). The step answers
it with the bus error of R900. -/
inductive Reject where
  | sizeNotFour (a : Access)
  deriving DecidableEq, Repr

/-- What a request carries besides its offset (R204). -/
def Request.access (r : Request) : Access :=
  match r.kind with
  | .read => .read
  | .write => .write r.wdata

/-- A CMD word is legal iff its bits [31:8] are 0 and OP ≤ 0x07 (R301); these are the eight legal words. -/
def decodeCommand (w : Word) : Option Command :=
  if w.extractLsb' 8 24 ≠ 0#24 then none
  else match (w.extractLsb' 0 8).toNat with
    | 0x00 => some .nop
    | 0x01 => some .softReset
    | 0x02 => some .configure
    | 0x03 => some .start
    | 0x04 => some .stop
    | 0x05 => some .resync
    | 0x06 => some .clearCounters
    | 0x07 => some .flushPackets
    | _ => none

/-- The instruction of a CMD-format word: one of the eight commands, or the table's default row (R301, R302). -/
def decodeCmdWord (w : Word) : Instr :=
  match decodeCommand w with
  | some .nop => .nop
  | some .softReset => .softReset
  | some .configure => .configure
  | some .start => .start
  | some .stop => .stop
  | some .resync => .resync
  | some .clearCounters => .clearCounters
  | some .flushPackets => .flushPackets
  | none => .cmdIllegal w

/-- The rows of the aligned offsets 0x000 to 0x0FC (R102). What no arm lists is 0x0F0 to 0x0FC, the last reserved range
below 0x100. -/
def decodeLowPage (off : BitVec 13) (a : Access) : Instr :=
  match off.toNat, a with
  | 0x000, .read => .rdId
  | 0x000, .write w => .wrId w
  | 0x004, .read => .rdVersion
  | 0x004, .write w => .wrVersion w
  | 0x008, .read => .rdCmd
  | 0x008, .write w => .wrCmd w
  | 0x00C, .read => .rdStatus
  | 0x00C, .write w => .wrStatus w
  | 0x010, .read => .rdErr
  | 0x010, .write w => .wrErr w
  | 0x014, .read => .rdCfgErr
  | 0x014, .write w => .wrCfgErr w
  | 0x018, .read => .rdIrqStatus
  | 0x018, .write w => .wrIrqStatus w
  | 0x01C, .read => .rdIrqEnable
  | 0x01C, .write w => .wrIrqEnable w
  | 0x020, .read => .rdFsHz
  | 0x020, .write w => .wrFsHz w
  | 0x024, .read => .rdRsHz
  | 0x024, .write w => .wrRsHz w
  | 0x028, .read => .rdDemodCfg
  | 0x028, .write w => .wrDemodCfg w
  | 0x02C, .read => .rdNsym
  | 0x02C, .write w => .wrNsym w
  | 0x030, .read => .rdAcqCfg
  | 0x030, .write w => .wrAcqCfg w
  | 0x034, .read => .rdStatsCfg
  | 0x034, .write w => .wrStatsCfg w
  | 0x038, .read => .rdUwCfg
  | 0x038, .write w => .wrUwCfg w
  | 0x03C, .read => .rdUwLo
  | 0x03C, .write w => .wrUwLo w
  | 0x040, .read => .rdUwHi
  | 0x040, .write w => .wrUwHi w
  | 0x044, .read => .rdFrameGap
  | 0x044, .write w => .wrFrameGap w
  | 0x048, .read => .rdLdpcNk
  | 0x048, .write w => .wrLdpcNk w
  | 0x04C, .read => .rdLdpcAlg
  | 0x04C, .write w => .wrLdpcAlg w
  | 0x050, .read => .rdHLen
  | 0x050, .write w => .wrHLen w
  | 0x054, .read => .rdHAddr
  | 0x054, .write w => .wrHAddr w
  | 0x058, .read => .rdHData
  | 0x058, .write w => .wrHData w
  | 0x05C, a => .reserved05C a
  | 0x060, .read => .rdSampleData
  | 0x060, .write w => .wrSampleData w
  | 0x064, .read => .rdSampCount
  | 0x064, .write w => .wrSampCount w
  | 0x068, .read => .rdSampFree
  | 0x068, .write w => .wrSampFree w
  | 0x06C, a => .reserved06C a
  | 0x070, .read => .rdPktCount
  | 0x070, .write w => .wrPktCount w
  | 0x074, .read => .rdPktData
  | 0x074, .write w => .wrPktData w
  | 0x078, .read => .rdPktWords
  | 0x078, .write w => .wrPktWords w
  | 0x07C, a => .reserved07C a
  | 0x080, .read => .rdCntBlocks
  | 0x080, .write w => .wrCntBlocks w
  | 0x084, .read => .rdCntBits
  | 0x084, .write w => .wrCntBits w
  | 0x088, .read => .rdCntSyncAcq
  | 0x088, .write w => .wrCntSyncAcq w
  | 0x08C, .read => .rdCntSyncLoss
  | 0x08C, .write w => .wrCntSyncLoss w
  | 0x090, .read => .rdCntUwMiss
  | 0x090, .write w => .wrCntUwMiss w
  | 0x094, .read => .rdCntFrames
  | 0x094, .write w => .wrCntFrames w
  | 0x098, .read => .rdCntFecFail
  | 0x098, .write w => .wrCntFecFail w
  | 0x09C, .read => .rdCntCrcFail
  | 0x09C, .write w => .wrCntCrcFail w
  | 0x0A0, .read => .rdCntPktOk
  | 0x0A0, .write w => .wrCntPktOk w
  | 0x0A4, .read => .rdCntLowSignal
  | 0x0A4, .write w => .wrCntLowSignal w
  | 0x0A8, .read => .rdCntSampDrop
  | 0x0A8, .write w => .wrCntSampDrop w
  | 0x0AC, .read => .rdLastDecode
  | 0x0AC, .write w => .wrLastDecode w
  | 0x0B0, .read => .rdLastUw
  | 0x0B0, .write w => .wrLastUw w
  | 0x0B4, a => .reserved0B4 a
  | 0x0B8, a => .reserved0B8 a
  | 0x0BC, a => .reserved0BC a
  | 0x0C0, .read => .rdStSeq
  | 0x0C0, .write w => .wrStSeq w
  | 0x0C4, .read => .rdStF0
  | 0x0C4, .write w => .wrStF0 w
  | 0x0C8, .read => .rdStF1
  | 0x0C8, .write w => .wrStF1 w
  | 0x0CC, .read => .rdStTiming
  | 0x0CC, .write w => .wrStTiming w
  | 0x0D0, .read => .rdStNout
  | 0x0D0, .write w => .wrStNout w
  | 0x0D4, .read => .rdStSig
  | 0x0D4, .write w => .wrStSig w
  | 0x0D8, .read => .rdStNoise
  | 0x0D8, .write w => .wrStNoise w
  | 0x0DC, .read => .rdStEavg
  | 0x0DC, .write w => .wrStEavg w
  | 0x0E0, .read => .rdStFlags
  | 0x0E0, .write w => .wrStFlags w
  | 0x0E4, .read => .rdStPeaks
  | 0x0E4, .write w => .wrStPeaks w
  | 0x0E8, .read => .rdStBlock
  | 0x0E8, .write w => .wrStBlock w
  | 0x0EC, a => .reserved0EC a
  | _, a => .reserved0F0 (off.extractLsb' 2 2) a

/-- The rows of the aligned offsets: the SPEC window, the reserved ranges, and the low page (R102, R106, R203). -/
def decodeAligned (off : BitVec 13) (a : Access) : Instr :=
  if 0x1000 ≤ off.toNat then
    match a with
    | .read => .rdSpec (off.extractLsb' 2 10)
    | .write w => .wrSpec (off.extractLsb' 2 10) w
  else if 0x800 ≤ off.toNat then .reserved800 (off.extractLsb' 2 9) a
  else if 0x400 ≤ off.toNat then .reserved400 (off.extractLsb' 2 8) a
  else if 0x200 ≤ off.toNat then .reserved200 (off.extractLsb' 2 7) a
  else if 0x100 ≤ off.toNat then .reserved100 (off.extractLsb' 2 6) a
  else decodeLowPage off a

/-- The row of an access key (R300, R400): the alignment of the offset is looked at first. -/
def decodeKey (off : BitVec 13) (a : Access) : Instr :=
  match (off.extractLsb' 0 2).toNat with
  | 0 => decodeAligned off a
  | 1 => .misaligned1 (off.extractLsb' 2 11) a
  | 2 => .misaligned2 (off.extractLsb' 2 11) a
  | _ => .misaligned3 (off.extractLsb' 2 11) a

/-- Decode, total on host operations (R300, R400). -/
def decode : HostOp → Except Reject Instr
  | .cmd w => .ok (decodeCmdWord w)
  | .bus r => if r.size = 4 then .ok (decodeKey r.off r.access) else .error (.sizeNotFour r.access)

/-- The bus request of an access at an offset: size 4, and data 0 where a read has none (R204). -/
def busAccess (off : BitVec 13) (a : Access) : HostOp :=
  match a with
  | .read => .bus { kind := .read, off := off, size := 4, wdata := 0#32 }
  | .write w => .bus { kind := .write, off := off, size := 4, wdata := w }

/-- Encode: the host operation that carries an instruction, from the offsets of R102 and the words of R301. -/
def encode : Instr → HostOp
  | .nop => .cmd 0x00000000#32
  | .softReset => .cmd 0x00000001#32
  | .configure => .cmd 0x00000002#32
  | .start => .cmd 0x00000003#32
  | .stop => .cmd 0x00000004#32
  | .resync => .cmd 0x00000005#32
  | .clearCounters => .cmd 0x00000006#32
  | .flushPackets => .cmd 0x00000007#32
  | .cmdIllegal w => .cmd w
  | .rdId => busAccess 0x0000#13 .read
  | .wrId w => busAccess 0x0000#13 (.write w)
  | .rdVersion => busAccess 0x0004#13 .read
  | .wrVersion w => busAccess 0x0004#13 (.write w)
  | .rdCmd => busAccess 0x0008#13 .read
  | .wrCmd w => busAccess 0x0008#13 (.write w)
  | .rdStatus => busAccess 0x000C#13 .read
  | .wrStatus w => busAccess 0x000C#13 (.write w)
  | .rdErr => busAccess 0x0010#13 .read
  | .wrErr w => busAccess 0x0010#13 (.write w)
  | .rdCfgErr => busAccess 0x0014#13 .read
  | .wrCfgErr w => busAccess 0x0014#13 (.write w)
  | .rdIrqStatus => busAccess 0x0018#13 .read
  | .wrIrqStatus w => busAccess 0x0018#13 (.write w)
  | .rdIrqEnable => busAccess 0x001C#13 .read
  | .wrIrqEnable w => busAccess 0x001C#13 (.write w)
  | .rdFsHz => busAccess 0x0020#13 .read
  | .wrFsHz w => busAccess 0x0020#13 (.write w)
  | .rdRsHz => busAccess 0x0024#13 .read
  | .wrRsHz w => busAccess 0x0024#13 (.write w)
  | .rdDemodCfg => busAccess 0x0028#13 .read
  | .wrDemodCfg w => busAccess 0x0028#13 (.write w)
  | .rdNsym => busAccess 0x002C#13 .read
  | .wrNsym w => busAccess 0x002C#13 (.write w)
  | .rdAcqCfg => busAccess 0x0030#13 .read
  | .wrAcqCfg w => busAccess 0x0030#13 (.write w)
  | .rdStatsCfg => busAccess 0x0034#13 .read
  | .wrStatsCfg w => busAccess 0x0034#13 (.write w)
  | .rdUwCfg => busAccess 0x0038#13 .read
  | .wrUwCfg w => busAccess 0x0038#13 (.write w)
  | .rdUwLo => busAccess 0x003C#13 .read
  | .wrUwLo w => busAccess 0x003C#13 (.write w)
  | .rdUwHi => busAccess 0x0040#13 .read
  | .wrUwHi w => busAccess 0x0040#13 (.write w)
  | .rdFrameGap => busAccess 0x0044#13 .read
  | .wrFrameGap w => busAccess 0x0044#13 (.write w)
  | .rdLdpcNk => busAccess 0x0048#13 .read
  | .wrLdpcNk w => busAccess 0x0048#13 (.write w)
  | .rdLdpcAlg => busAccess 0x004C#13 .read
  | .wrLdpcAlg w => busAccess 0x004C#13 (.write w)
  | .rdHLen => busAccess 0x0050#13 .read
  | .wrHLen w => busAccess 0x0050#13 (.write w)
  | .rdHAddr => busAccess 0x0054#13 .read
  | .wrHAddr w => busAccess 0x0054#13 (.write w)
  | .rdHData => busAccess 0x0058#13 .read
  | .wrHData w => busAccess 0x0058#13 (.write w)
  | .rdSampleData => busAccess 0x0060#13 .read
  | .wrSampleData w => busAccess 0x0060#13 (.write w)
  | .rdSampCount => busAccess 0x0064#13 .read
  | .wrSampCount w => busAccess 0x0064#13 (.write w)
  | .rdSampFree => busAccess 0x0068#13 .read
  | .wrSampFree w => busAccess 0x0068#13 (.write w)
  | .rdPktCount => busAccess 0x0070#13 .read
  | .wrPktCount w => busAccess 0x0070#13 (.write w)
  | .rdPktData => busAccess 0x0074#13 .read
  | .wrPktData w => busAccess 0x0074#13 (.write w)
  | .rdPktWords => busAccess 0x0078#13 .read
  | .wrPktWords w => busAccess 0x0078#13 (.write w)
  | .rdCntBlocks => busAccess 0x0080#13 .read
  | .wrCntBlocks w => busAccess 0x0080#13 (.write w)
  | .rdCntBits => busAccess 0x0084#13 .read
  | .wrCntBits w => busAccess 0x0084#13 (.write w)
  | .rdCntSyncAcq => busAccess 0x0088#13 .read
  | .wrCntSyncAcq w => busAccess 0x0088#13 (.write w)
  | .rdCntSyncLoss => busAccess 0x008C#13 .read
  | .wrCntSyncLoss w => busAccess 0x008C#13 (.write w)
  | .rdCntUwMiss => busAccess 0x0090#13 .read
  | .wrCntUwMiss w => busAccess 0x0090#13 (.write w)
  | .rdCntFrames => busAccess 0x0094#13 .read
  | .wrCntFrames w => busAccess 0x0094#13 (.write w)
  | .rdCntFecFail => busAccess 0x0098#13 .read
  | .wrCntFecFail w => busAccess 0x0098#13 (.write w)
  | .rdCntCrcFail => busAccess 0x009C#13 .read
  | .wrCntCrcFail w => busAccess 0x009C#13 (.write w)
  | .rdCntPktOk => busAccess 0x00A0#13 .read
  | .wrCntPktOk w => busAccess 0x00A0#13 (.write w)
  | .rdCntLowSignal => busAccess 0x00A4#13 .read
  | .wrCntLowSignal w => busAccess 0x00A4#13 (.write w)
  | .rdCntSampDrop => busAccess 0x00A8#13 .read
  | .wrCntSampDrop w => busAccess 0x00A8#13 (.write w)
  | .rdLastDecode => busAccess 0x00AC#13 .read
  | .wrLastDecode w => busAccess 0x00AC#13 (.write w)
  | .rdLastUw => busAccess 0x00B0#13 .read
  | .wrLastUw w => busAccess 0x00B0#13 (.write w)
  | .rdStSeq => busAccess 0x00C0#13 .read
  | .wrStSeq w => busAccess 0x00C0#13 (.write w)
  | .rdStF0 => busAccess 0x00C4#13 .read
  | .wrStF0 w => busAccess 0x00C4#13 (.write w)
  | .rdStF1 => busAccess 0x00C8#13 .read
  | .wrStF1 w => busAccess 0x00C8#13 (.write w)
  | .rdStTiming => busAccess 0x00CC#13 .read
  | .wrStTiming w => busAccess 0x00CC#13 (.write w)
  | .rdStNout => busAccess 0x00D0#13 .read
  | .wrStNout w => busAccess 0x00D0#13 (.write w)
  | .rdStSig => busAccess 0x00D4#13 .read
  | .wrStSig w => busAccess 0x00D4#13 (.write w)
  | .rdStNoise => busAccess 0x00D8#13 .read
  | .wrStNoise w => busAccess 0x00D8#13 (.write w)
  | .rdStEavg => busAccess 0x00DC#13 .read
  | .wrStEavg w => busAccess 0x00DC#13 (.write w)
  | .rdStFlags => busAccess 0x00E0#13 .read
  | .wrStFlags w => busAccess 0x00E0#13 (.write w)
  | .rdStPeaks => busAccess 0x00E4#13 .read
  | .wrStPeaks w => busAccess 0x00E4#13 (.write w)
  | .rdStBlock => busAccess 0x00E8#13 .read
  | .wrStBlock w => busAccess 0x00E8#13 (.write w)
  | .rdSpec k => busAccess (1#1 ++ k ++ 0#2) .read
  | .wrSpec k w => busAccess (1#1 ++ k ++ 0#2) (.write w)
  | .reserved05C a => busAccess 0x005C#13 a
  | .reserved06C a => busAccess 0x006C#13 a
  | .reserved07C a => busAccess 0x007C#13 a
  | .reserved0B4 a => busAccess 0x00B4#13 a
  | .reserved0B8 a => busAccess 0x00B8#13 a
  | .reserved0BC a => busAccess 0x00BC#13 a
  | .reserved0EC a => busAccess 0x00EC#13 a
  | .reserved0F0 j a => busAccess (15#9 ++ j ++ 0#2) a
  | .reserved100 j a => busAccess (1#5 ++ j ++ 0#2) a
  | .reserved200 j a => busAccess (1#4 ++ j ++ 0#2) a
  | .reserved400 j a => busAccess (1#3 ++ j ++ 0#2) a
  | .reserved800 j a => busAccess (1#2 ++ j ++ 0#2) a
  | .misaligned1 hi a => busAccess (hi ++ 1#2) a
  | .misaligned2 hi a => busAccess (hi ++ 2#2) a
  | .misaligned3 hi a => busAccess (hi ++ 3#2) a

/-- The host operation whose bits spec/opcode_table.json numbers `w`: rows of at most 16 bits are BUS access keys (bit 13
is WR, bits [12:0] are OFF; the operand word is 0), rows of 32 bits are CMD words (R300). -/
def hostOpOfTable (nbits w : Nat) : HostOp :=
  if nbits ≤ 16 then
    .bus { kind := if w.testBit 13 then .write else .read, off := BitVec.ofNat 13 w, size := 4, wdata := 0#32 }
  else .cmd (BitVec.ofNat 32 w)

/-- The instruction the decoder reads from a word of spec/opcode_table.json; none where the number does not fit the format. -/
def decodeTableWord (nbits w : Nat) : Option Instr :=
  if (if nbits ≤ 16 then 2 ^ 14 else 2 ^ 32) ≤ w then none
  else match decode (hostOpOfTable nbits w) with
    | .ok i => some i
    | .error _ => none

end Sys2Proof
end

