-- ==== Sys2Proof/Machine/Arith.lean ====
section
/-! DEFINITION. The exact integer operators of R12 and R14, and the least-index extremes of R12. -/

namespace Sys2Proof.Machine

/-- `asr(v, s)` = floor(v / 2^s), the arithmetic shift right of R12. -/
def asr (v : Int) (s : Nat) : Int := v / 2 ^ s

/-- `clamp(v, lo, hi)` (R12). -/
def clamp (v lo hi : Int) : Int := if v < lo then lo else if hi < v then hi else v

/-- `tdiv(a, b)`: the quotient rounded toward zero (R12). -/
def tdiv (a b : Int) : Int := Int.tdiv a b

/-- `sat32(v)` = min(v, 2^32 - 1) for v ≥ 0, as a register word (R12). -/
def sat32 (v : Int) : Word := BitVec.ofInt 32 (min v (2 ^ 32 - 1))

/-- Componentwise sum (R14). -/
def cadd (a b : Cplx) : Cplx := ⟨a.re + b.re, a.im + b.im⟩

/-- `|z|²` = re·re + im·im, an exact integer (R14). -/
def normSq (z : Cplx) : Int := z.re * z.re + z.im * z.im

/-- The sum of a list of complex values (R14). -/
def csum (zs : List Cplx) : Cplx := zs.foldr cadd Cplx.zero

/-- The element of `best :: xs` with the greatest `f`, the first of them where several have it. -/
def firstMaxFrom {α : Type} (f : α → Int) (best : α) : List α → α
  | [] => best
  | x :: xs => firstMaxFrom f (if f best < f x then x else best) xs

/-- The first element of a list that attains the greatest `f` (argmax of R12); `dflt` stands for an empty list, which no
rule takes an extreme of (R600; log 13). -/
def firstMax {α : Type} (f : α → Int) (dflt : α) : List α → α
  | [] => dflt
  | x :: xs => firstMaxFrom f x xs

/-- `popcount(v)` of the low `n` bits (R12). -/
def popcount {w : Nat} (v : BitVec w) : Nat → Nat
  | 0 => 0
  | n + 1 => (v.getLsbD n).toNat + popcount v n

end Sys2Proof.Machine
end

