-- ==== Sys2Proof/Config.lean ====
section
/-! DEFINITION. What an implementation fixes: the build-time parameters of R8 with their defaults and legal ranges, the
fixed constants of R3 and R9, and the one free value of the spec, H_MEM's power-on contents (D60). -/

namespace Sys2Proof

/-- The build-time parameters of R8. The machine carries them in State (log 8), so a claim about every state is a claim
about every choice of them. -/
structure Params where
  /-- P_SAMP_DEPTH: sample FIFO capacity in samples. -/
  sampDepth : Nat
  /-- P_PKT_DEPTH: packet FIFO capacity in packets. -/
  pktDepth : Nat
  /-- P_N_MAX: largest codeword length in bits. -/
  nMax : Nat
  /-- P_H_MAX: parity-check memory size in entries. -/
  hMax : Nat
  /-- P_DC_MAX: largest row weight. -/
  dcMax : Nat
  /-- P_DV_MAX: largest column weight. -/
  dvMax : Nat
  /-- P_OS_MAX: largest oversampling factor. -/
  osMax : Nat
  deriving DecidableEq, Repr

/-- The defaults of R8. -/
def Params.default : Params :=
  { sampDepth := 65536, pktDepth := 4, nMax := 8192, hMax := 32768, dcMax := 32, dvMax := 16, osMax := 64 }

/-- The legal ranges of R8. -/
def Params.legal (p : Params) : Bool :=
  decide (64 ≤ p.sampDepth ∧ p.sampDepth ≤ 2 ^ 20 ∧ 1 ≤ p.pktDepth ∧ p.pktDepth ≤ 255 ∧
    32 ≤ p.nMax ∧ p.nMax ≤ 65535 ∧ 2 ≤ p.hMax ∧ p.hMax ≤ 65536 ∧ 2 ≤ p.dcMax ∧ p.dcMax ≤ 255 ∧
    1 ≤ p.dvMax ∧ p.dvMax ≤ 255 ∧ 4 ≤ p.osMax ∧ p.osMax ≤ 64 ∧ p.osMax % 2 = 0)

/-- ID: ASCII "WRXC" (R3, R104). -/
def Config.idValue : Word := 0x57525843#32

/-- VERSION: major 1, minor 0 (R3, R104). -/
def Config.versionValue : Word := 0x00010000#32

/-- QMAX, the soft-bit and message bound (R9). -/
def Config.qMax : Int := 127

/-- The value entry `a` of H_MEM holds after power-on number `gen`, until it is written: unspecified, one free value per
entry (R130, R1001, D60). It has no body, so nothing can be proved of it (log 6). -/
opaque Config.hMemDraw : Nat → Nat → Word

end Sys2Proof
end

