-- ==== Sys2Proof/Machine/State.lean ====
section
/-! DEFINITION. The state of the WRX core: everything spec/10_state.md gives it, as plain data, with the values of the
power-on reset (R1001). The model's own fields are `par`, `powerOns`, `reply` and `script` (logs 8, 6, 5, 1). -/

namespace Sys2Proof.Machine

/-- Why the machine stops with a fault: it never does. No condition in the core stops it (R902, R950), so the type has no
constructor (safe: nothing is cut off). -/
inductive Fault where
  deriving DecidableEq, Repr

/-- Why an instruction has no meaning. -/
inductive Refusal where
  /-- Raised only by an arm of `exec` whose instruction has no meaning yet; no arm of this model raises it (safe: a claim
  about such an instruction could not be proved). -/
  | notModelled (mnemonic : String)
  deriving DecidableEq, Repr

/-- The thirteen configuration registers FS_HZ to H_LEN (R115 to R119), as the host stores them, reserved bits 0. The shadow
and the active configuration both have this shape (R120). -/
structure CfgRegs where
  fsHz : Word
  rsHz : Word
  demodCfg : Word
  nsym : Word
  acqCfg : Word
  statsCfg : Word
  uwCfg : Word
  uwLo : Word
  uwHi : Word
  frameGap : Word
  ldpcNk : Word
  ldpcAlg : Word
  hLen : Word
  deriving DecidableEq, Repr

/-- The engine state STATE (R110) with the active configuration (R120), which exists exactly in READY and RUN: it is void
in IDLE and CFG_ERROR, "and no rule reads it there" (log 10). -/
inductive Mode where
  | idle
  | ready (active : CfgRegs)
  | run (active : CfgRegs)
  | cfgError
  deriving DecidableEq, Repr

/-- H_MEM's written entries: pairs of an entry index and its 32-bit entry, indices strictly rising (R130, R330). An entry
that is not listed has not been written since power-on (logs 6, 7). -/
abbrev Memory := List (Nat × Word)

/-- One complex sample of SAMP_FIFO: a pair of 16-bit signed components (R131). -/
structure Sample where
  re : BitVec 16
  im : BitVec 16
  deriving DecidableEq, Repr

/-- The sticky bits of IRQ_STATUS: 1 STATS, 2 SYNC_CHG, 4 CFG_DONE (R113). -/
structure IrqSticky where
  stats : Bool
  syncChg : Bool
  cfgDone : Bool
  deriving DecidableEq, Repr

/-- The eleven counters of R140. -/
structure Counters where
  blocks : Word
  bits : Word
  syncAcq : Word
  syncLoss : Word
  uwMiss : Word
  frames : Word
  fecFail : Word
  crcFail : Word
  pktOk : Word
  lowSignal : Word
  sampDrop : Word
  deriving DecidableEq, Repr

/-- LAST_DECODE (R141). -/
structure LastDecode where
  iters : BitVec 8
  parityOk : Bool
  crcOk : Bool
  valid : Bool
  deriving DecidableEq, Repr

/-- LAST_UW (R141). -/
structure LastUw where
  dist : BitVec 7
  valid : Bool
  deriving DecidableEq, Repr

/-- The statistics snapshot registers ST_* (R142). -/
structure Stats where
  seq : Word
  f0 : Word
  f1 : Word
  timing : BitVec 8
  nout : Word
  sig : Word
  noise : Word
  eavg : Word
  /-- bit 0 LOW_SIGNAL, bit 1 SYNC, bit 2 VALID. -/
  flags : BitVec 3
  peaks : Word
  block : Word
  deriving DecidableEq, Repr

/-- The demodulator's state of one tone branch (R150): the NCO word f[i], the phase phi[i] and the history YHIST[i]. -/
structure Branch where
  f : Word
  phi : Word
  yhist : List Cplx
  deriving DecidableEq, Repr

/-- The demodulator state, the source's "Modem State" (R150). Branch 0 is the lower tone, branch 1 the upper. -/
structure Demod where
  b0 : Branch
  b1 : Branch
  fValid : Bool
  last : Int
  ptim : Nat
  lowSig : Bool
  bss : Word
  deriving DecidableEq, Repr

/-- FSTATE (R151). -/
inductive FState where
  | searching
  | synchronized
  deriving DecidableEq, Repr

/-- PHASE, the part of the frame the next bit belongs to (R151, R700). -/
inductive Phase where
  | cw
  | gap
  | uw
  deriving DecidableEq, Repr

/-- The framer state (R151), with CW_BUF (R134): the soft bits collected so far, the first one first. Outside a codeword
its contents are irrelevant, and the model holds none (log 12). -/
structure Framer where
  fstate : FState
  win : BitVec 64
  fill : Nat
  phase : Phase
  cnt : Nat
  miss : Nat
  cwBuf : List Int
  deriving DecidableEq, Repr

/-- resp of a host access (R204). -/
inductive Resp where
  | okay
  | error
  deriving DecidableEq, Repr

/-- The core's answer `(rdata, resp)` to a host access (R204); a write returns no read data (log 5). -/
structure Reply where
  resp : Resp
  rdata : Option Word
  deriving DecidableEq, Repr

/-- One turn of the interleaving of R210: a host access, a place where the engine may take a block step, or the platform
asserting the power-on reset (R1000). -/
inductive Turn where
  | host (op : HostOp)
  | engine
  | powerOn
  deriving DecidableEq, Repr

/-- The whole state. -/
structure State where
  /-- Build-time parameters (R8); no step changes them (log 8). -/
  par : Params
  /-- STATE and the active configuration (R110, R120). -/
  mode : Mode
  /-- ERR [8:0] (R111). -/
  err : BitVec 9
  /-- CFG_ERR [7:0] (R112). -/
  cfgErr : BitVec 8
  /-- IRQ_STATUS's sticky bits (R113). -/
  irq : IrqSticky
  /-- IRQ_ENABLE [4:0] (R114). -/
  irqEnable : BitVec 5
  /-- The shadow configuration (R115 to R119). -/
  shadow : CfgRegs
  /-- H_ADDR [15:0] (R130). -/
  hAddr : BitVec 16
  /-- H_MEM (R130). -/
  hmem : Memory
  /-- How many power-on resets there have been: which draw H_MEM's unwritten entries come from (log 6). -/
  powerOns : Nat
  /-- SAMP_FIFO, oldest first (R131). -/
  sampFifo : List Sample
  /-- PKT_FIFO, oldest first (R132). -/
  pktFifo : List (List Byte)
  /-- RD_WORD (R132). -/
  rdWord : Nat
  /-- PKW, what PKT_WORDS reads (R132). -/
  pkw : Nat
  /-- The counters (R140). -/
  cnt : Counters
  /-- LAST_DECODE (R141). -/
  lastDecode : LastDecode
  /-- LAST_UW (R141). -/
  lastUw : LastUw
  /-- The ST_* registers (R142). -/
  stats : Stats
  /-- SPEC_MEM, 1024 entries (R133). -/
  specMem : List Word
  /-- SNAP_NF (R133). -/
  snapNf : Nat
  /-- The demodulator (R150). -/
  demod : Demod
  /-- The framer (R151). -/
  framer : Framer
  /-- The answer to the latest host access (R204; log 5). -/
  reply : Option Reply
  /-- The turns still to come, the next one first (R210; log 1). -/
  script : List Turn
  deriving DecidableEq, Repr

/-- The configuration registers at reset (R102): all 0 but LDPC_ALG, which is 0x00000805 (R119). -/
def CfgRegs.reset : CfgRegs :=
  { fsHz := 0, rsHz := 0, demodCfg := 0, nsym := 0, acqCfg := 0, statsCfg := 0, uwCfg := 0, uwLo := 0, uwHi := 0,
    frameGap := 0, ldpcNk := 0, ldpcAlg := 0x00000805#32, hLen := 0 }

/-- Every counter 0 (R140). -/
def Counters.zero : Counters :=
  { blocks := 0, bits := 0, syncAcq := 0, syncLoss := 0, uwMiss := 0, frames := 0, fecFail := 0, crcFail := 0,
    pktOk := 0, lowSignal := 0, sampDrop := 0 }

/-- LAST_DECODE = 0 (R141). -/
def LastDecode.zero : LastDecode := { iters := 0, parityOk := false, crcOk := false, valid := false }

/-- LAST_UW = 0 (R141). -/
def LastUw.zero : LastUw := { dist := 0, valid := false }

/-- Every ST_* register 0 (R142). -/
def Stats.zero : Stats :=
  { seq := 0, f0 := 0, f1 := 0, timing := 0, nout := 0, sig := 0, noise := 0, eavg := 0, flags := 0, peaks := 0, block := 0 }

/-- The machine right after a power-on reset of a core built with the parameters `p` (R1001, R102): draw 0 of H_MEM, no
answer on the host port, no turn to come. DEMOD_INIT is taken with OS = 0, since no configuration is active (log 11). -/
def State.resetWith (p : Params) : State :=
  { par := p
    mode := .idle
    err := 0
    cfgErr := 0
    irq := { stats := false, syncChg := false, cfgDone := false }
    irqEnable := 0
    shadow := CfgRegs.reset
    hAddr := 0
    hmem := []
    powerOns := 0
    sampFifo := []
    pktFifo := []
    rdWord := 0
    pkw := 0
    cnt := Counters.zero
    lastDecode := LastDecode.zero
    lastUw := LastUw.zero
    stats := Stats.zero
    specMem := List.replicate 1024 0
    snapNf := 0
    demod :=
      { b0 := { f := 0, phi := 0, yhist := [] }, b1 := { f := 0, phi := 0, yhist := [] }, fValid := false, last := -1,
        ptim := 0, lowSig := false, bss := 0 }
    framer := { fstate := .searching, win := 0, fill := 0, phase := .cw, cnt := 0, miss := 0, cwBuf := [] }
    reply := none
    script := [] }

/-- The machine right after reset, with the default parameters of R8. -/
def State.reset : State := State.resetWith Params.default

end Sys2Proof.Machine
end

