-- ==== Sys2Proof/Machine/Operands.lean ====
section
/-! DEFINITION. The operand forms: the fields of the configuration registers and the quantities derived from them (R116 to
R120, R310), the write masks of the registers (R407 to R452), the sample word formats (R320), the H entry fields (R330) and
the packet words (R340). -/

namespace Sys2Proof.Machine

/-- The field `REG[hi:lo]` read as an unsigned number, `len = hi - lo + 1` (R11, R310). -/
def field (w : Word) (lo len : Nat) : Nat := (w.extractLsb' lo len).toNat

/-- DEMOD_CFG.OS [7:0] (R116). -/
def CfgRegs.os (c : CfgRegs) : Nat := field c.demodCfg 0 8
/-- DEMOD_CFG.SAMPLE_FMT [10:8] (R116). -/
def CfgRegs.fmt (c : CfgRegs) : Nat := field c.demodCfg 8 3
/-- DEMOD_CFG.TONES [15:12] (R116). -/
def CfgRegs.tones (c : CfgRegs) : Nat := field c.demodCfg 12 4
/-- DEMOD_CFG.LOG2_NFFT [19:16] (R116). -/
def CfgRegs.log2Nf (c : CfgRegs) : Nat := field c.demodCfg 16 4
/-- DEMOD_CFG.SMOOTH_SHIFT [23:20] (R116). -/
def CfgRegs.smoothShift (c : CfgRegs) : Nat := field c.demodCfg 20 4
/-- DEMOD_CFG.SOFT_GAIN [31:24] (R116). -/
def CfgRegs.softGain (c : CfgRegs) : Nat := field c.demodCfg 24 8
/-- NSYM.NSYM [15:0] (R116). -/
def CfgRegs.symbols (c : CfgRegs) : Nat := field c.nsym 0 16
/-- ACQ_CFG.ACQ_CENTER, sext_16 of bits [15:0] (R117, R310). -/
def CfgRegs.acqCenter (c : CfgRegs) : Int := (c.acqCfg.extractLsb' 0 16).toInt
/-- ACQ_CFG.ACQ_HALFWIDTH [27:16] (R117). -/
def CfgRegs.acqHalf (c : CfgRegs) : Nat := field c.acqCfg 16 12
/-- ACQ_CFG.TONE_GUARD [31:28] (R117). -/
def CfgRegs.toneGuard (c : CfgRegs) : Nat := field c.acqCfg 28 4
/-- STATS_CFG.SNR_FLOOR [15:0] (R117). -/
def CfgRegs.snrFloor (c : CfgRegs) : Nat := field c.statsCfg 0 16
/-- STATS_CFG.STATS_DIV [31:16] (R117). -/
def CfgRegs.statsDiv (c : CfgRegs) : Nat := field c.statsCfg 16 16
/-- UW_CFG.LUW [6:0] (R118). -/
def CfgRegs.luw (c : CfgRegs) : Nat := field c.uwCfg 0 7
/-- UW_CFG.UW_TOL [14:8] (R118). -/
def CfgRegs.uwTol (c : CfgRegs) : Nat := field c.uwCfg 8 7
/-- UW_CFG.LOSS_THRESH [23:16] (R118). -/
def CfgRegs.lossThresh (c : CfgRegs) : Nat := field c.uwCfg 16 8
/-- The unique word {UW_HI, UW_LO}, 64 bits; only its low LUW bits are used (R118, R350). -/
def CfgRegs.uniqueWord (c : CfgRegs) : BitVec 64 := c.uwHi ++ c.uwLo
/-- FRAME_GAP.GAP [15:0] (R118). -/
def CfgRegs.gapBits (c : CfgRegs) : Nat := field c.frameGap 0 16
/-- LDPC_NK.N_CW [15:0] (R119). -/
def CfgRegs.nCw (c : CfgRegs) : Nat := field c.ldpcNk 0 16
/-- LDPC_NK.K [31:16] (R119). -/
def CfgRegs.kInfo (c : CfgRegs) : Nat := field c.ldpcNk 16 16
/-- LDPC_ALG.MAXIT [7:0] (R119). -/
def CfgRegs.maxIt (c : CfgRegs) : Nat := field c.ldpcAlg 0 8
/-- LDPC_ALG.SCALE [11:8] (R119). -/
def CfgRegs.scale (c : CfgRegs) : Nat := field c.ldpcAlg 8 4
/-- LDPC_ALG.OFFSET [22:16] (R119). -/
def CfgRegs.offset (c : CfgRegs) : Nat := field c.ldpcAlg 16 7
/-- H_LEN.H_LEN [16:0] (R119). -/
def CfgRegs.hCount (c : CfgRegs) : Nat := field c.hLen 0 17

/-- N = NSYM·OS, the block length in samples (R120). -/
def CfgRegs.blockLen (c : CfgRegs) : Nat := c.symbols * c.os
/-- Nf = 2^LOG2_NFFT (R120). -/
def CfgRegs.nf (c : CfgRegs) : Nat := 2 ^ c.log2Nf
/-- P = K/8, the bytes of a packet (R120). -/
def CfgRegs.pktBytes (c : CfgRegs) : Nat := c.kInfo / 8
/-- ceil(K/32), the words of a packet: what PKW becomes at a passing CONFIGURE (R132). -/
def CfgRegs.pktWords (c : CfgRegs) : Nat := (c.kInfo + 31) / 32
/-- Pmax = 1 + fdiv(NSYM, N_CW) (R120, R601). -/
def CfgRegs.pMax (c : CfgRegs) : Nat := 1 + c.symbols / c.nCw

/-- What a write stores of DEMOD_CFG: bit 11 is reserved (R442). -/
def maskDemodCfg (w : Word) : Word := w &&& 0xFFFFF7FF#32
/-- What a write stores of NSYM (R443) and FRAME_GAP (R449): bits [15:0]. -/
def maskLow16 (w : Word) : Word := w &&& 0x0000FFFF#32
/-- What a write stores of UW_CFG (R446). -/
def maskUwCfg (w : Word) : Word := w &&& 0x00FF7F7F#32
/-- What a write stores of LDPC_ALG (R451). -/
def maskLdpcAlg (w : Word) : Word := w &&& 0x007F0FFF#32
/-- What a write stores of H_LEN (R452). -/
def maskHLen (w : Word) : Word := w &&& 0x0001FFFF#32

/-- Byte `i` of a word: bits [8i+7:8i] (R202). -/
def wordByte (w : Word) (i : Nat) : Byte := w.extractLsb' (8 * i) 8

/-- An 8-bit component: offset binary with midpoint 128, scaled by 256 into the 16-bit range (R320). -/
def offsetBinary (b : Byte) : BitVec 16 := BitVec.ofInt 16 (((b.toNat : Int) - 128) * 256)

/-- The complex samples of a SAMPLE_DATA word in stream order, by SAMPLE_FMT: CS16, CU8, RS16, RU8 (R320, R321). The
reserved formats 4 to 7 are refused at CONFIGURE, so no active configuration has one; they give no sample (log 13). -/
def convertSamples (fmt : Nat) (w : Word) : List Sample :=
  match fmt with
  | 0 => [⟨w.extractLsb' 0 16, w.extractLsb' 16 16⟩]
  | 1 => [⟨offsetBinary (wordByte w 0), offsetBinary (wordByte w 1)⟩,
          ⟨offsetBinary (wordByte w 2), offsetBinary (wordByte w 3)⟩]
  | 2 => [⟨w.extractLsb' 0 16, 0⟩, ⟨w.extractLsb' 16 16, 0⟩]
  | 3 => [⟨offsetBinary (wordByte w 0), 0⟩, ⟨offsetBinary (wordByte w 1), 0⟩,
          ⟨offsetBinary (wordByte w 2), 0⟩, ⟨offsetBinary (wordByte w 3), 0⟩]
  | _ => []

/-- S(fmt), the samples of one word: 1, 2, 2, 4 (R321). -/
def samplesPerWord (fmt : Nat) : Nat :=
  match fmt with
  | 0 => 1
  | 1 => 2
  | 2 => 2
  | 3 => 4
  | _ => 0

/-- A sample as the pair of integers the datapath reads (R602). -/
def Sample.toCplx (x : Sample) : Cplx := ⟨x.re.toInt, x.im.toInt⟩

/-- VAR [15:0] of an H entry (R330). -/
def entryVar (e : Word) : Nat := field e 0 16
/-- RSV [30:16] of an H entry is 0 (R330). -/
def entryRsvZero (e : Word) : Bool := e.extractLsb' 16 15 == 0#15
/-- END [31] of an H entry (R330). -/
def entryEnd (e : Word) : Bool := e.getLsbD 31

/-- Byte `t` of a packet, 0 past its end (R340). -/
def packetByte (pkt : List Byte) (t : Nat) : Byte := pkt.getD t 0

/-- Word `j` of a packet: byte 4j in bits [7:0], little-endian, padding bytes 0 (R340). -/
def packetWord (pkt : List Byte) (j : Nat) : Word :=
  packetByte pkt (4 * j + 3) ++ packetByte pkt (4 * j + 2) ++ packetByte pkt (4 * j + 1) ++ packetByte pkt (4 * j)

end Sys2Proof.Machine
end

