-- ==== Sys2Proof/Machine/Flags.lean ====
section
/-! DEFINITION. The flags: the ERR bits (R111), STATUS (R110), IRQ_STATUS (R113), the interrupt output (R910), and the words
that LAST_DECODE, LAST_UW and ST_FLAGS read as (R141, R142). -/

namespace Sys2Proof.Machine

/-- The flags of ERR (R111). -/
inductive ErrFlag where
  | cmdIllegal
  | cmdState
  | cfgFail
  | sampOverflow
  | sampState
  | pktUnderflow
  | hState
  | hRange
  | bus
  deriving DecidableEq, Repr

/-- The bit number of an ERR flag (R111). -/
def ErrFlag.bit : ErrFlag → Nat
  | .cmdIllegal => 0
  | .cmdState => 1
  | .cfgFail => 2
  | .sampOverflow => 3
  | .sampState => 4
  | .pktUnderflow => 5
  | .hState => 6
  | .hRange => 7
  | .bus => 8

/-- The word with the flag's bit alone. -/
def ErrFlag.mask (e : ErrFlag) : BitVec 9 := 1#9 <<< e.bit

/-- count(SAMP_FIFO) (R131). -/
def State.sampCount (s : State) : Nat := s.sampFifo.length
/-- free(SAMP_FIFO) = P_SAMP_DEPTH - count (R131, R422). -/
def State.sampFree (s : State) : Nat := s.par.sampDepth - s.sampCount
/-- count(PKT_FIFO) (R132). -/
def State.pktCount (s : State) : Nat := s.pktFifo.length
/-- free(PKT_FIFO) = P_PKT_DEPTH - count (R601). -/
def State.pktFree (s : State) : Nat := s.par.pktDepth - s.pktCount

/-- STATE [1:0] (R110). -/
def Mode.code : Mode → BitVec 2
  | .idle => 0
  | .ready _ => 1
  | .run _ => 2
  | .cfgError => 3

/-- STATUS.SYNC: the framer is Synchronized (R110). -/
def State.sync (s : State) : Bool := s.framer.fstate == .synchronized

/-- STATUS.HOLD: RUN, a block of samples waits, and PKT_FIFO lacks room for Pmax packets (R110, R405). -/
def State.hold (s : State) : Bool :=
  match s.mode with
  | .run c => decide (c.blockLen ≤ s.sampCount ∧ s.pktFree < c.pMax)
  | _ => false

/-- STATUS.STARVED: RUN and fewer samples than a block (R110, R405). -/
def State.starved (s : State) : Bool :=
  match s.mode with
  | .run c => decide (s.sampCount < c.blockLen)
  | _ => false

/-- STATUS, composed at the read (R110, R405). -/
def State.status (s : State) : Word :=
  0#25 ++ BitVec.ofBool s.starved ++ BitVec.ofBool s.hold ++ BitVec.ofBool s.demod.lowSig ++
    BitVec.ofBool s.demod.fValid ++ BitVec.ofBool s.sync ++ s.mode.code

/-- IRQ_STATUS [4:0]: the levels PKT_AVAIL and ERROR with the sticky bits (R113, R409). -/
def State.irqStatus (s : State) : BitVec 5 :=
  BitVec.ofBool s.irq.cfgDone ++ BitVec.ofBool (s.err != 0) ++ BitVec.ofBool s.irq.syncChg ++
    BitVec.ofBool s.irq.stats ++ BitVec.ofBool (decide (0 < s.pktCount))

/-- The interrupt output: the OR of IRQ_STATUS[b] AND IRQ_ENABLE[b] (R910). -/
def State.irqOutput (s : State) : Bool := s.irqStatus &&& s.irqEnable != 0

/-- LAST_DECODE as it reads: ITERS [7:0], PARITY_OK [8], CRC_OK [9], VALID [10] (R141). -/
def LastDecode.word (d : LastDecode) : Word :=
  0#21 ++ BitVec.ofBool d.valid ++ BitVec.ofBool d.crcOk ++ BitVec.ofBool d.parityOk ++ d.iters

/-- LAST_UW as it reads: DIST [6:0], VALID [7] (R141). -/
def LastUw.word (u : LastUw) : Word := 0#24 ++ BitVec.ofBool u.valid ++ u.dist

/-- ST_FLAGS of a snapshot: LOW_SIGNAL [0], SYNC [1], VALID [2] = 1 (R142, R662). -/
def snapshotFlags (low sync : Bool) : BitVec 3 := 1#1 ++ BitVec.ofBool sync ++ BitVec.ofBool low

end Sys2Proof.Machine
end

