-- ==== Sys2Proof/Machine/Ops.lean ====
section
/-! DEFINITION. The named operations over the state: H_MEM's entries (R130, R411, R412), the answers on the host port (R204),
setting and clearing an ERR bit, the bus error (R900), DEMOD_INIT and FRAMER_INIT (R150, R151), the two resets (R1001), and
pushing and popping the FIFOs. The core has no trap (R902): recording a condition in ERR is its whole "exception entry", and
the host's write of 1 (R407) its "return". -/

namespace Sys2Proof.Machine

/-! ## H_MEM -/

/-- The canonical form of a memory: entry indices strictly rising (log 7). -/
def Memory.wf : Memory → Bool
  | [] => true
  | [_] => true
  | (a, _) :: (b, w) :: rest => decide (a < b) && Memory.wf ((b, w) :: rest)

/-- The stored value of an entry, none where it has not been written since power-on. -/
def Memory.find (m : Memory) (a : Nat) : Option Word :=
  match m with
  | [] => none
  | (b, w) :: rest => if a = b then some w else Memory.find rest a

/-- MemWrite (R13): store `v` in entry `a`. -/
def Memory.store (m : Memory) (a : Nat) (v : Word) : Memory :=
  match m with
  | [] => [(a, v)]
  | (b, w) :: rest =>
    if a < b then (a, v) :: (b, w) :: rest
    else if a = b then (a, v) :: rest
    else (b, w) :: Memory.store rest a v

/-- MemRead (R13): entry `a` of H_MEM, its power-on draw where it has not been written (R130, R412; log 6). -/
def State.hRead (s : State) (a : Nat) : Word :=
  match s.hmem.find a with
  | some w => w
  | none => Config.hMemDraw s.powerOns a

/-- H_MEM[0 .. n-1], the entries a configuration of H_LEN = n reads (R330, R800). -/
def State.hEntries (s : State) (n : Nat) : List Word := (List.range n).map s.hRead

/-! ## The host port -/

/-- Answer a read: resp = OKAY with the read data (R204). -/
def State.answerRead (s : State) (v : Word) : State := { s with reply := some { resp := .okay, rdata := some v } }

/-- Answer a write: resp = OKAY; a write returns no read data (R204; log 5). -/
def State.answerWrite (s : State) : State := { s with reply := some { resp := .okay, rdata := none } }

/-- `setErr(BIT)`: set a sticky flag of ERR (R13, R111). -/
def State.setErr (s : State) (e : ErrFlag) : State := { s with err := s.err ||| e.mask }

/-- Clear the ERR flags written as 1, keep the others (R407). -/
def State.clearErr (s : State) (w : Word) : State := { s with err := s.err &&& ~~~ w.extractLsb' 0 9 }

/-- The bus error: ERR.BUS, resp = ERROR, rdata 0 for a read, and nothing else (R900). -/
def State.busError (s : State) (a : Access) : State :=
  match a with
  | .read => { s.setErr .bus with reply := some { resp := .error, rdata := some 0 } }
  | .write _ => { s.setErr .bus with reply := some { resp := .error, rdata := none } }

/-! ## The FIFOs -/

/-- SAMP_FIFO <- empty. -/
def State.flushSamples (s : State) : State := { s with sampFifo := [] }

/-- PKT_FIFO <- empty; RD_WORD <- 0 (R541). -/
def State.flushPackets (s : State) : State := { s with pktFifo := [], rdWord := 0 }

/-- Push samples, the first one first (R211, R420). -/
def State.pushSamples (s : State) (xs : List Sample) : State := { s with sampFifo := s.sampFifo ++ xs }

/-- Push one packet (R822). -/
def State.pushPacket (s : State) (pkt : List Byte) : State := { s with pktFifo := s.pktFifo ++ [pkt] }

/-- Move RD_WORD on by one word of the oldest packet, and pop that packet at its PKW-th word (R430). -/
def State.advancePacket (s : State) : State :=
  if s.rdWord + 1 = s.pkw then { s with pktFifo := s.pktFifo.tail, rdWord := 0 } else { s with rdWord := s.rdWord + 1 }

/-! ## Initial values and resets -/

/-- A branch of DEMOD_INIT (R150): f and phi 0, 2·OS history entries (0, 0). -/
def branchInit (os : Nat) : Branch := { f := 0, phi := 0, yhist := List.replicate (2 * os) Cplx.zero }

/-- DEMOD_INIT for an oversampling factor (R150): LAST = -(OS/2) - 1. -/
def demodInit (os : Nat) : Demod :=
  { b0 := branchInit os, b1 := branchInit os, fValid := false, last := -((os / 2 : Nat) : Int) - 1, ptim := 0,
    lowSig := false, bss := 0 }

/-- FRAMER_INIT (R151), with no soft bit collected (log 12). -/
def framerInit : Framer :=
  { fstate := .searching, win := 0, fill := 0, phase := .cw, cnt := 0, miss := 0, cwBuf := [] }

/-- demodulator state <- DEMOD_INIT, for the active configuration `c` (R1003). -/
def State.initDemod (s : State) (c : CfgRegs) : State := { s with demod := demodInit c.os }

/-- framer state <- FRAMER_INIT (R1003). -/
def State.initFramer (s : State) : State := { s with framer := framerInit }

/-- STATE <- m, with the active configuration that m carries (R110, R120). -/
def State.setMode (s : State) (m : Mode) : State := { s with mode := m }

/-- ApplyReset(SOFT): every piece of state at its reset value, but H_MEM, which keeps its contents (R1001, R1002). The build
parameters and the turns still to come are no state of the core (logs 1, 8). -/
def State.softReset (s : State) : State :=
  { State.resetWith s.par with hmem := s.hmem, powerOns := s.powerOns, script := s.script }

/-- ApplyReset(POWER): every piece of state at its reset value, and a new draw for every entry of H_MEM (R1000, R1001;
logs 6, 15). -/
def State.powerOnReset (s : State) : State :=
  { State.resetWith s.par with powerOns := s.powerOns + 1, script := s.script }

end Sys2Proof.Machine
end

