-- ==== Sys2Proof/Machine/Validate.lean ====
section
/-! DEFINITION. The code graph of H_MEM (R330, R800) and the 23 configuration checks of CONFIGURE (R906). -/

namespace Sys2Proof.Machine

/-- The check rows of a list of H entries: each row is the run of entries up to and including the next one with END = 1,
as the list of its variables (R330, R800). `acc` holds the open row's variables, the last one first; entries after the last
END make a row of their own, which check 18 refuses. -/
def graphRowsFrom (acc : List Nat) : List Word → List (List Nat)
  | [] => if acc.isEmpty then [] else [acc.reverse]
  | e :: es =>
    if entryEnd e then (entryVar e :: acc).reverse :: graphRowsFrom [] es
    else graphRowsFrom (entryVar e :: acc) es

/-- The check rows, row 0 first, each with its variables in entry order (R800). -/
def graphRows (es : List Word) : List (List Nat) := graphRowsFrom [] es

/-- Does a list name a value twice? -/
def hasDuplicate : List Nat → Bool
  | [] => false
  | v :: vs => vs.contains v || hasDuplicate vs

/-- Checks 1 to 15, which read only the registers: the least failing check, or 0 (R906). -/
def checkRegisters (p : Params) (c : CfgRegs) : Nat :=
  let half : Int := (c.nf : Int) / 2
  if c.os % 2 = 1 ∨ c.os < 4 ∨ p.osMax < c.os then 1
  else if c.tones ≠ 2 then 2
  else if 3 < c.fmt then 3
  else if c.rsHz = 0 ∨ c.fsHz.toNat ≠ c.rsHz.toNat * c.os then 4
  else if c.symbols < 2 then 5
  else if c.log2Nf < 6 ∨ 10 < c.log2Nf then 6
  else if p.sampDepth < c.blockLen ∨ c.blockLen < c.nf then 7
  else if c.acqHalf < 2 * c.toneGuard + 1 ∨ c.acqCenter - c.acqHalf < -half ∨ half - 1 < c.acqCenter + c.acqHalf then 8
  else if c.softGain = 0 then 9
  else if c.luw < 8 ∨ 64 < c.luw then 10
  else if c.luw ≤ 2 * c.uwTol then 11
  else if c.lossThresh = 0 then 12
  else if p.nMax < c.nCw ∨ c.kInfo < 24 ∨ c.kInfo % 8 ≠ 0 ∨ c.nCw ≤ c.kInfo then 13
  else if c.maxIt = 0 ∨ c.scale = 0 ∨ 8 < c.scale then 14
  else if c.hCount = 0 ∨ p.hMax < c.hCount then 15
  else 0

/-- Checks 16 to 23, evaluated only when 1 to 15 have passed, over the entries H_MEM[0 .. H_LEN-1]: the least failing check,
or 0 (R906). -/
def checkGraph (p : Params) (c : CfgRegs) (es : List Word) : Nat :=
  let vars := es.map entryVar
  let rows := graphRows es
  if es.any (fun e => !entryRsvZero e) then 16
  else if vars.any (fun v => decide (c.nCw ≤ v)) then 17
  else if !(es.getLast?.any entryEnd) then 18
  else if es.countP entryEnd ≠ c.nCw - c.kInfo then 19
  else if rows.any (fun r => decide (r.length < 2 ∨ p.dcMax < r.length)) then 20
  else if rows.any hasDuplicate then 21
  else if (List.range c.nCw).any (fun v => decide (p.dvMax < vars.count v)) then 22
  else if p.pktDepth < c.pMax then 23
  else 0

/-- `Validate(shadow, H_MEM)`: the least failing check, or 0 if all pass; it writes nothing (R906). -/
def State.validate (s : State) (c : CfgRegs) : Nat :=
  match checkRegisters s.par c with
  | 0 => checkGraph s.par c (s.hEntries c.hCount)
  | code => code

end Sys2Proof.Machine
end

