-- ==== Sys2Proof/Machine/Commands.lean ====
section
/-! DEFINITION. The commands (R500 to R541): which states allow each one, what each one does, and the nine meanings of the
CMD rows of the opcode table. -/

namespace Sys2Proof.Machine

/-- Allowed(op) (R501). -/
def commandAllowed (k : Command) (m : Mode) : Bool :=
  match k, m with
  | .nop, _ => true
  | .softReset, _ => true
  | .configure, .run _ => false
  | .configure, _ => true
  | .start, .ready _ => true
  | .start, _ => false
  | .stop, .run _ => true
  | .stop, _ => false
  | .resync, .ready _ => true
  | .resync, .run _ => true
  | .resync, _ => false
  | .clearCounters, _ => true
  | .flushPackets, _ => true

/-- What every CONFIGURE does first: both FIFOs empty, IRQ_STATUS.CFG_DONE set (R512). -/
def State.beginConfigure (s : State) : State :=
  { s.flushSamples.flushPackets with irq := { s.irq with cfgDone := true } }

/-- A passing CONFIGURE: the active configuration is the shadow, PKW = ceil(K/32), demodulator, framer and snapshot start
anew, CFG_ERR = 0, STATE = READY (R512). -/
def State.configurePass (s : State) : State :=
  { s.beginConfigure with
    mode := .ready s.shadow
    pkw := s.shadow.pktWords
    demod := demodInit s.shadow.os
    framer := framerInit
    stats := Stats.zero
    snapNf := 0
    cfgErr := 0 }

/-- A failing CONFIGURE: PKW = 0, the code in CFG_ERR, ERR.CFG_FAIL, STATE = CFG_ERROR (R512). -/
def State.configureFail (s : State) (code : Nat) : State :=
  { s.beginConfigure.setErr .cfgFail with mode := .cfgError, pkw := 0, cfgErr := BitVec.ofNat 8 code }

/-- CONFIGURE (R512). -/
def State.configure (s : State) : State :=
  match s.validate s.shadow with
  | 0 => s.configurePass
  | code => s.configureFail code

/-- START: DEMOD_INIT, FRAMER_INIT, STATE = RUN; FIFOs and snapshot are kept (R520). -/
def State.start (s : State) : State :=
  match s.mode with
  | .ready c => ((s.initDemod c).initFramer).setMode (.run c)
  | _ => s

/-- STOP: SAMP_FIFO empty, DEMOD_INIT, FRAMER_INIT, STATE = READY; packets and snapshot are kept (R521). -/
def State.stop (s : State) : State :=
  match s.mode with
  | .run c => ((s.flushSamples.initDemod c).initFramer).setMode (.ready c)
  | _ => s

/-- RESYNC: FRAMER_INIT and nothing else (R530). -/
def State.resync (s : State) : State := s.initFramer

/-- CLEAR_COUNTERS: every register from 0x080 to 0x0B0 becomes 0 (R540). -/
def State.clearCounters (s : State) : State :=
  { s with cnt := Counters.zero, lastDecode := LastDecode.zero, lastUw := LastUw.zero }

/-- The rule of a command (R510 to R541), performed where the state allows it. -/
def commandEffect (k : Command) (s : State) : State :=
  match k with
  | .nop => s
  | .softReset => s.softReset
  | .configure => s.configure
  | .start => s.start
  | .stop => s.stop
  | .resync => s.resync
  | .clearCounters => s.clearCounters
  | .flushPackets => s.flushPackets

/-- A legal command: its rule where STATE allows it, otherwise ERR.CMD_STATE and nothing else (R500, R501). -/
def performCommand (k : Command) (s : State) : State :=
  if commandAllowed k s.mode then commandEffect k s else s.setErr .cmdState

/-- `ExecuteCommand(w)`: an illegal word sets ERR.CMD_ILLEGAL and does nothing else (R500). -/
def executeCommand (w : Word) (s : State) : State :=
  match decodeCommand w with
  | some k => performCommand k s
  | none => s.setErr .cmdIllegal

/-- A CMD write completes with resp = OKAY whatever becomes of the command (R500). -/
def commandOutcome (s : State) : Host.Outcome State Fault Refusal := .next s.answerWrite

/-- NOP (R510). -/
def execNop (s : State) : Host.Outcome State Fault Refusal := commandOutcome (performCommand .nop s)
/-- SOFT_RESET (R511). -/
def execSoftReset (s : State) : Host.Outcome State Fault Refusal := commandOutcome (performCommand .softReset s)
/-- CONFIGURE (R512). -/
def execConfigure (s : State) : Host.Outcome State Fault Refusal := commandOutcome (performCommand .configure s)
/-- START (R520). -/
def execStart (s : State) : Host.Outcome State Fault Refusal := commandOutcome (performCommand .start s)
/-- STOP (R521). -/
def execStop (s : State) : Host.Outcome State Fault Refusal := commandOutcome (performCommand .stop s)
/-- RESYNC (R530). -/
def execResync (s : State) : Host.Outcome State Fault Refusal := commandOutcome (performCommand .resync s)
/-- CLEAR_COUNTERS (R540). -/
def execClearCounters (s : State) : Host.Outcome State Fault Refusal := commandOutcome (performCommand .clearCounters s)
/-- FLUSH_PACKETS (R541). -/
def execFlushPackets (s : State) : Host.Outcome State Fault Refusal := commandOutcome (performCommand .flushPackets s)
/-- CMD_ILLEGAL: a word that is none of the eight commands (R500). -/
def execCmdIllegal (_w : Word) (s : State) : Host.Outcome State Fault Refusal := commandOutcome (s.setErr .cmdIllegal)

end Sys2Proof.Machine
end

