-- ==== Sys2Proof/Machine/Access.lean ====
section
/-! DEFINITION. The shapes that many host accesses share: reading a register, and a write that is ignored (R103, R401). -/

namespace Sys2Proof.Machine

/-- A read without side effect: `rdata <- v`, resp = OKAY (R103). -/
def readRegister (s : State) (v : Word) : Host.Outcome State Fault Refusal := .next (s.answerRead v)

/-- A write to a read-only register: `resp <- OKAY` and nothing else (R401). -/
def ignoreWrite (s : State) : Host.Outcome State Fault Refusal := .next s.answerWrite

/-- A write completes with resp = OKAY after its effect, a refused one too (R411, R420). -/
def writeOutcome (s : State) : Host.Outcome State Fault Refusal := .next s.answerWrite

end Sys2Proof.Machine
end

