-- ==== Sys2Proof/Machine/BusErrors.lean ====
section
/-! DEFINITION. The meanings of the reserved and misaligned accesses: each ends in the bus error of R900. -/

namespace Sys2Proof.Machine

/-- A request answered with resp = ERROR (R900). -/
def busErrorOutcome (a : Access) (s : State) : Host.Outcome State Fault Refusal := .next (s.busError a)

/-- RESERVED_0x05C (R400, R900). -/
def execReserved05C (a : Access) (s : State) : Host.Outcome State Fault Refusal := busErrorOutcome a s

/-- RESERVED_0x06C (R400, R900). -/
def execReserved06C (a : Access) (s : State) : Host.Outcome State Fault Refusal := busErrorOutcome a s

/-- RESERVED_0x07C (R400, R900). -/
def execReserved07C (a : Access) (s : State) : Host.Outcome State Fault Refusal := busErrorOutcome a s

/-- RESERVED_0x0B4 (R400, R900). -/
def execReserved0B4 (a : Access) (s : State) : Host.Outcome State Fault Refusal := busErrorOutcome a s

/-- RESERVED_0x0B8 (R400, R900). -/
def execReserved0B8 (a : Access) (s : State) : Host.Outcome State Fault Refusal := busErrorOutcome a s

/-- RESERVED_0x0BC (R400, R900). -/
def execReserved0BC (a : Access) (s : State) : Host.Outcome State Fault Refusal := busErrorOutcome a s

/-- RESERVED_0x0EC (R400, R900). -/
def execReserved0EC (a : Access) (s : State) : Host.Outcome State Fault Refusal := busErrorOutcome a s

/-- RESERVED_0x0F0_0x0FC (R400, R900). -/
def execReserved0F0 (_j : BitVec 2) (a : Access) (s : State) : Host.Outcome State Fault Refusal := busErrorOutcome a s

/-- RESERVED_0x100_0x1FC (R400, R900). -/
def execReserved100 (_j : BitVec 6) (a : Access) (s : State) : Host.Outcome State Fault Refusal := busErrorOutcome a s

/-- RESERVED_0x200_0x3FC (R400, R900). -/
def execReserved200 (_j : BitVec 7) (a : Access) (s : State) : Host.Outcome State Fault Refusal := busErrorOutcome a s

/-- RESERVED_0x400_0x7FC (R400, R900). -/
def execReserved400 (_j : BitVec 8) (a : Access) (s : State) : Host.Outcome State Fault Refusal := busErrorOutcome a s

/-- RESERVED_0x800_0xFFC (R400, R900). -/
def execReserved800 (_j : BitVec 9) (a : Access) (s : State) : Host.Outcome State Fault Refusal := busErrorOutcome a s

/-- MISALIGNED_1 (R400, R900). -/
def execMisaligned1 (_hi : BitVec 11) (a : Access) (s : State) : Host.Outcome State Fault Refusal := busErrorOutcome a s

/-- MISALIGNED_2 (R400, R900). -/
def execMisaligned2 (_hi : BitVec 11) (a : Access) (s : State) : Host.Outcome State Fault Refusal := busErrorOutcome a s

/-- MISALIGNED_3 (R400, R900). -/
def execMisaligned3 (_hi : BitVec 11) (a : Access) (s : State) : Host.Outcome State Fault Refusal := busErrorOutcome a s

end Sys2Proof.Machine
end

