-- ==== Sys2Proof/Machine/HostConfig.lean ====
section
/-! DEFINITION. The meanings of the shadow configuration register accesses (R440 to R452): a write stores the writable fields into the
shadow register only, in every STATE, and a read returns them with reserved bits 0. -/

namespace Sys2Proof.Machine

/-- A write to a shadow register changes the shadow configuration and nothing else (R120, section 6 of 40_host_access.md). -/
def State.writeShadow (s : State) (c : CfgRegs) : State := { s with shadow := c }

/-- Read FS_HZ (R440). -/
def execRdFsHz (s : State) : Host.Outcome State Fault Refusal := readRegister s s.shadow.fsHz

/-- Write FS_HZ (R440). -/
def execWrFsHz (w : Word) (s : State) : Host.Outcome State Fault Refusal :=
  writeOutcome (s.writeShadow { s.shadow with fsHz := w })

/-- Read RS_HZ (R441). -/
def execRdRsHz (s : State) : Host.Outcome State Fault Refusal := readRegister s s.shadow.rsHz

/-- Write RS_HZ (R441). -/
def execWrRsHz (w : Word) (s : State) : Host.Outcome State Fault Refusal :=
  writeOutcome (s.writeShadow { s.shadow with rsHz := w })

/-- Read DEMOD_CFG (R442). -/
def execRdDemodCfg (s : State) : Host.Outcome State Fault Refusal := readRegister s s.shadow.demodCfg

/-- Write DEMOD_CFG (R442). -/
def execWrDemodCfg (w : Word) (s : State) : Host.Outcome State Fault Refusal :=
  writeOutcome (s.writeShadow { s.shadow with demodCfg := maskDemodCfg w })

/-- Read NSYM (R443). -/
def execRdNsym (s : State) : Host.Outcome State Fault Refusal := readRegister s s.shadow.nsym

/-- Write NSYM (R443). -/
def execWrNsym (w : Word) (s : State) : Host.Outcome State Fault Refusal :=
  writeOutcome (s.writeShadow { s.shadow with nsym := maskLow16 w })

/-- Read ACQ_CFG (R444). -/
def execRdAcqCfg (s : State) : Host.Outcome State Fault Refusal := readRegister s s.shadow.acqCfg

/-- Write ACQ_CFG (R444). -/
def execWrAcqCfg (w : Word) (s : State) : Host.Outcome State Fault Refusal :=
  writeOutcome (s.writeShadow { s.shadow with acqCfg := w })

/-- Read STATS_CFG (R445). -/
def execRdStatsCfg (s : State) : Host.Outcome State Fault Refusal := readRegister s s.shadow.statsCfg

/-- Write STATS_CFG (R445). -/
def execWrStatsCfg (w : Word) (s : State) : Host.Outcome State Fault Refusal :=
  writeOutcome (s.writeShadow { s.shadow with statsCfg := w })

/-- Read UW_CFG (R446). -/
def execRdUwCfg (s : State) : Host.Outcome State Fault Refusal := readRegister s s.shadow.uwCfg

/-- Write UW_CFG (R446). -/
def execWrUwCfg (w : Word) (s : State) : Host.Outcome State Fault Refusal :=
  writeOutcome (s.writeShadow { s.shadow with uwCfg := maskUwCfg w })

/-- Read UW_LO (R447). -/
def execRdUwLo (s : State) : Host.Outcome State Fault Refusal := readRegister s s.shadow.uwLo

/-- Write UW_LO (R447). -/
def execWrUwLo (w : Word) (s : State) : Host.Outcome State Fault Refusal :=
  writeOutcome (s.writeShadow { s.shadow with uwLo := w })

/-- Read UW_HI (R448). -/
def execRdUwHi (s : State) : Host.Outcome State Fault Refusal := readRegister s s.shadow.uwHi

/-- Write UW_HI (R448). -/
def execWrUwHi (w : Word) (s : State) : Host.Outcome State Fault Refusal :=
  writeOutcome (s.writeShadow { s.shadow with uwHi := w })

/-- Read FRAME_GAP (R449). -/
def execRdFrameGap (s : State) : Host.Outcome State Fault Refusal := readRegister s s.shadow.frameGap

/-- Write FRAME_GAP (R449). -/
def execWrFrameGap (w : Word) (s : State) : Host.Outcome State Fault Refusal :=
  writeOutcome (s.writeShadow { s.shadow with frameGap := maskLow16 w })

/-- Read LDPC_NK (R450). -/
def execRdLdpcNk (s : State) : Host.Outcome State Fault Refusal := readRegister s s.shadow.ldpcNk

/-- Write LDPC_NK (R450). -/
def execWrLdpcNk (w : Word) (s : State) : Host.Outcome State Fault Refusal :=
  writeOutcome (s.writeShadow { s.shadow with ldpcNk := w })

/-- Read LDPC_ALG (R451). -/
def execRdLdpcAlg (s : State) : Host.Outcome State Fault Refusal := readRegister s s.shadow.ldpcAlg

/-- Write LDPC_ALG (R451). -/
def execWrLdpcAlg (w : Word) (s : State) : Host.Outcome State Fault Refusal :=
  writeOutcome (s.writeShadow { s.shadow with ldpcAlg := maskLdpcAlg w })

/-- Read H_LEN (R452). -/
def execRdHLen (s : State) : Host.Outcome State Fault Refusal := readRegister s s.shadow.hLen

/-- Write H_LEN (R452). -/
def execWrHLen (w : Word) (s : State) : Host.Outcome State Fault Refusal :=
  writeOutcome (s.writeShadow { s.shadow with hLen := maskHLen w })

end Sys2Proof.Machine
end

