-- ==== Sys2Proof/Machine/HostControl.lean ====
section
/-! DEFINITION. The meanings of the identity, command, status, error and interrupt register accesses (R402 to R410, R414). -/

namespace Sys2Proof.Machine

/-- Read ID (R403). -/
def execRdId (s : State) : Host.Outcome State Fault Refusal := readRegister s Config.idValue

/-- Write ID, which is read-only: ignored (R401). -/
def execWrId (_w : Word) (s : State) : Host.Outcome State Fault Refusal := ignoreWrite s

/-- Read VERSION (R403). -/
def execRdVersion (s : State) : Host.Outcome State Fault Refusal := readRegister s Config.versionValue

/-- Write VERSION, which is read-only: ignored (R401). -/
def execWrVersion (_w : Word) (s : State) : Host.Outcome State Fault Refusal := ignoreWrite s

/-- Read CMD (R402). A write-only register reads 0, and no command is executed. -/
def execRdCmd (s : State) : Host.Outcome State Fault Refusal := readRegister s 0

/-- Write CMD (R404): `ExecuteCommand(wdata)`. -/
def execWrCmd (w : Word) (s : State) : Host.Outcome State Fault Refusal := writeOutcome (executeCommand w s)

/-- Read STATUS (R405). -/
def execRdStatus (s : State) : Host.Outcome State Fault Refusal := readRegister s s.status

/-- Write STATUS, which is read-only: ignored (R401). -/
def execWrStatus (_w : Word) (s : State) : Host.Outcome State Fault Refusal := ignoreWrite s

/-- Read ERR (R406). The read does not clear it. -/
def execRdErr (s : State) : Host.Outcome State Fault Refusal := readRegister s (s.err.setWidth 32)

/-- Write ERR (R407): bits written as 1 are cleared, wdata[31:9] is ignored. -/
def execWrErr (w : Word) (s : State) : Host.Outcome State Fault Refusal := writeOutcome (s.clearErr w)

/-- Read CFG_ERR (R408). -/
def execRdCfgErr (s : State) : Host.Outcome State Fault Refusal := readRegister s (s.cfgErr.setWidth 32)

/-- Write CFG_ERR, which is read-only: ignored (R401). -/
def execWrCfgErr (_w : Word) (s : State) : Host.Outcome State Fault Refusal := ignoreWrite s

/-- Read IRQ_STATUS (R409). -/
def execRdIrqStatus (s : State) : Host.Outcome State Fault Refusal := readRegister s (s.irqStatus.setWidth 32)

/-- The sticky bits of IRQ_STATUS written as 1 are cleared; bits 0 and 3 are levels, and writing them does nothing (R410). -/
def State.clearIrq (s : State) (w : Word) : State :=
  { s with
    irq :=
      { stats := s.irq.stats && !w.getLsbD 1
        syncChg := s.irq.syncChg && !w.getLsbD 2
        cfgDone := s.irq.cfgDone && !w.getLsbD 4 } }

/-- Write IRQ_STATUS (R410). -/
def execWrIrqStatus (w : Word) (s : State) : Host.Outcome State Fault Refusal := writeOutcome (s.clearIrq w)

/-- Read IRQ_ENABLE (R414). -/
def execRdIrqEnable (s : State) : Host.Outcome State Fault Refusal := readRegister s (s.irqEnable.setWidth 32)

/-- Write IRQ_ENABLE (R414): `IRQ_ENABLE <- wdata[4:0]`. -/
def execWrIrqEnable (w : Word) (s : State) : Host.Outcome State Fault Refusal :=
  writeOutcome { s with irqEnable := w.extractLsb' 0 5 }

end Sys2Proof.Machine
end

