-- ==== Sys2Proof/Machine/HostCounters.lean ====
section
/-! DEFINITION. The meanings of the counter register accesses (R460 to R472); their writes are ignored (R401). -/

namespace Sys2Proof.Machine

/-- Read CNT_BLOCKS (R460). -/
def execRdCntBlocks (s : State) : Host.Outcome State Fault Refusal := readRegister s s.cnt.blocks

/-- Write CNT_BLOCKS, which is read-only: ignored (R401). -/
def execWrCntBlocks (_w : Word) (s : State) : Host.Outcome State Fault Refusal := ignoreWrite s

/-- Read CNT_BITS (R461). -/
def execRdCntBits (s : State) : Host.Outcome State Fault Refusal := readRegister s s.cnt.bits

/-- Write CNT_BITS, which is read-only: ignored (R401). -/
def execWrCntBits (_w : Word) (s : State) : Host.Outcome State Fault Refusal := ignoreWrite s

/-- Read CNT_SYNC_ACQ (R462). -/
def execRdCntSyncAcq (s : State) : Host.Outcome State Fault Refusal := readRegister s s.cnt.syncAcq

/-- Write CNT_SYNC_ACQ, which is read-only: ignored (R401). -/
def execWrCntSyncAcq (_w : Word) (s : State) : Host.Outcome State Fault Refusal := ignoreWrite s

/-- Read CNT_SYNC_LOSS (R463). -/
def execRdCntSyncLoss (s : State) : Host.Outcome State Fault Refusal := readRegister s s.cnt.syncLoss

/-- Write CNT_SYNC_LOSS, which is read-only: ignored (R401). -/
def execWrCntSyncLoss (_w : Word) (s : State) : Host.Outcome State Fault Refusal := ignoreWrite s

/-- Read CNT_UW_MISS (R464). -/
def execRdCntUwMiss (s : State) : Host.Outcome State Fault Refusal := readRegister s s.cnt.uwMiss

/-- Write CNT_UW_MISS, which is read-only: ignored (R401). -/
def execWrCntUwMiss (_w : Word) (s : State) : Host.Outcome State Fault Refusal := ignoreWrite s

/-- Read CNT_FRAMES (R465). -/
def execRdCntFrames (s : State) : Host.Outcome State Fault Refusal := readRegister s s.cnt.frames

/-- Write CNT_FRAMES, which is read-only: ignored (R401). -/
def execWrCntFrames (_w : Word) (s : State) : Host.Outcome State Fault Refusal := ignoreWrite s

/-- Read CNT_FEC_FAIL (R466). -/
def execRdCntFecFail (s : State) : Host.Outcome State Fault Refusal := readRegister s s.cnt.fecFail

/-- Write CNT_FEC_FAIL, which is read-only: ignored (R401). -/
def execWrCntFecFail (_w : Word) (s : State) : Host.Outcome State Fault Refusal := ignoreWrite s

/-- Read CNT_CRC_FAIL (R467). -/
def execRdCntCrcFail (s : State) : Host.Outcome State Fault Refusal := readRegister s s.cnt.crcFail

/-- Write CNT_CRC_FAIL, which is read-only: ignored (R401). -/
def execWrCntCrcFail (_w : Word) (s : State) : Host.Outcome State Fault Refusal := ignoreWrite s

/-- Read CNT_PKT_OK (R468). -/
def execRdCntPktOk (s : State) : Host.Outcome State Fault Refusal := readRegister s s.cnt.pktOk

/-- Write CNT_PKT_OK, which is read-only: ignored (R401). -/
def execWrCntPktOk (_w : Word) (s : State) : Host.Outcome State Fault Refusal := ignoreWrite s

/-- Read CNT_LOW_SIGNAL (R469). -/
def execRdCntLowSignal (s : State) : Host.Outcome State Fault Refusal := readRegister s s.cnt.lowSignal

/-- Write CNT_LOW_SIGNAL, which is read-only: ignored (R401). -/
def execWrCntLowSignal (_w : Word) (s : State) : Host.Outcome State Fault Refusal := ignoreWrite s

/-- Read CNT_SAMP_DROP (R470). -/
def execRdCntSampDrop (s : State) : Host.Outcome State Fault Refusal := readRegister s s.cnt.sampDrop

/-- Write CNT_SAMP_DROP, which is read-only: ignored (R401). -/
def execWrCntSampDrop (_w : Word) (s : State) : Host.Outcome State Fault Refusal := ignoreWrite s

/-- Read LAST_DECODE (R471). -/
def execRdLastDecode (s : State) : Host.Outcome State Fault Refusal := readRegister s s.lastDecode.word

/-- Write LAST_DECODE, which is read-only: ignored (R401). -/
def execWrLastDecode (_w : Word) (s : State) : Host.Outcome State Fault Refusal := ignoreWrite s

/-- Read LAST_UW (R472). -/
def execRdLastUw (s : State) : Host.Outcome State Fault Refusal := readRegister s s.lastUw.word

/-- Write LAST_UW, which is read-only: ignored (R401). -/
def execWrLastUw (_w : Word) (s : State) : Host.Outcome State Fault Refusal := ignoreWrite s

end Sys2Proof.Machine
end

