-- ==== Sys2Proof/Machine/HostPorts.lean ====
section
/-! DEFINITION. The meanings of the parity-check memory port (R411 to R413), the sample port (R420 to R422) and the packet port (R430 to
R432). -/

namespace Sys2Proof.Machine

/-- Read H_ADDR (R413). -/
def execRdHAddr (s : State) : Host.Outcome State Fault Refusal := readRegister s (s.hAddr.setWidth 32)

/-- Write H_ADDR (R413): `H_ADDR <- wdata[15:0]`, in every STATE, with no check against P_H_MAX. -/
def execWrHAddr (w : Word) (s : State) : Host.Outcome State Fault Refusal :=
  writeOutcome { s with hAddr := w.extractLsb' 0 16 }

/-- An accepted H_DATA write leaves READY for IDLE, which voids the active configuration; other states stay (R411). -/
def Mode.afterHWrite : Mode → Mode
  | .ready _ => .idle
  | m => m

/-- An accepted H_DATA write: all 32 bits stored at H_ADDR, H_ADDR moves on mod 2^16 (R411). -/
def State.storeH (s : State) (w : Word) : State :=
  { s with hmem := s.hmem.store s.hAddr.toNat w, hAddr := s.hAddr + 1, mode := s.mode.afterHWrite }

/-- H_DATA write: refused in RUN, then refused at H_ADDR ≥ P_H_MAX, else stored (R411, R903). -/
def State.writeHData (s : State) (w : Word) : State :=
  match s.mode with
  | .run _ => s.setErr .hState
  | _ => if s.par.hMax ≤ s.hAddr.toNat then s.setErr .hRange else s.storeH w

/-- Read H_DATA (R412): the entry at H_ADDR, which does not move; at H_ADDR ≥ P_H_MAX, ERR.H_RANGE and rdata 0. -/
def execRdHData (s : State) : Host.Outcome State Fault Refusal :=
  if s.par.hMax ≤ s.hAddr.toNat then readRegister (s.setErr .hRange) 0 else readRegister s (s.hRead s.hAddr.toNat)

/-- Write H_DATA (R411). -/
def execWrHData (w : Word) (s : State) : Host.Outcome State Fault Refusal := writeOutcome (s.writeHData w)

/-- Read SAMPLE_DATA (R402). A write-only register reads 0, and no sample is popped. -/
def execRdSampleData (s : State) : Host.Outcome State Fault Refusal := readRegister s 0

/-- A sample word under the active configuration `c`: pushed whole, or dropped whole with ERR.SAMP_OVERFLOW and its samples
counted in CNT_SAMP_DROP (R420). -/
def State.acceptSampleWord (s : State) (c : CfgRegs) (w : Word) : State :=
  if s.sampFree < samplesPerWord c.fmt then
    { s.setErr .sampOverflow with
      cnt := { s.cnt with sampDrop := s.cnt.sampDrop + BitVec.ofNat 32 (samplesPerWord c.fmt) } }
  else s.pushSamples (convertSamples c.fmt w)

/-- SAMPLE_DATA write: refused in IDLE and CFG_ERROR, then refused for want of room, else pushed (R420, R903). -/
def State.writeSampleData (s : State) (w : Word) : State :=
  match s.mode with
  | .ready c => s.acceptSampleWord c w
  | .run c => s.acceptSampleWord c w
  | .idle => s.setErr .sampState
  | .cfgError => s.setErr .sampState

/-- Write SAMPLE_DATA (R420). -/
def execWrSampleData (w : Word) (s : State) : Host.Outcome State Fault Refusal := writeOutcome (s.writeSampleData w)

/-- Read SAMP_COUNT (R421). -/
def execRdSampCount (s : State) : Host.Outcome State Fault Refusal := readRegister s (BitVec.ofNat 32 s.sampCount)

/-- Write SAMP_COUNT, which is read-only: ignored (R401). -/
def execWrSampCount (_w : Word) (s : State) : Host.Outcome State Fault Refusal := ignoreWrite s

/-- Read SAMP_FREE (R422). -/
def execRdSampFree (s : State) : Host.Outcome State Fault Refusal := readRegister s (BitVec.ofNat 32 s.sampFree)

/-- Write SAMP_FREE, which is read-only: ignored (R401). -/
def execWrSampFree (_w : Word) (s : State) : Host.Outcome State Fault Refusal := ignoreWrite s

/-- Read PKT_COUNT (R431). -/
def execRdPktCount (s : State) : Host.Outcome State Fault Refusal := readRegister s (BitVec.ofNat 32 s.pktCount)

/-- Write PKT_COUNT, which is read-only: ignored (R401). -/
def execWrPktCount (_w : Word) (s : State) : Host.Outcome State Fault Refusal := ignoreWrite s

/-- Read PKT_DATA (R430): the next word of the oldest packet, which leaves the FIFO at its PKW-th word; with PKT_FIFO empty,
ERR.PKT_UNDERFLOW and rdata 0. -/
def execRdPktData (s : State) : Host.Outcome State Fault Refusal :=
  match s.pktFifo with
  | [] => readRegister (s.setErr .pktUnderflow) 0
  | pkt :: _ => readRegister s.advancePacket (packetWord pkt s.rdWord)

/-- Write PKT_DATA, which is read-only: ignored (R401). -/
def execWrPktData (_w : Word) (s : State) : Host.Outcome State Fault Refusal := ignoreWrite s

/-- Read PKT_WORDS (R432). -/
def execRdPktWords (s : State) : Host.Outcome State Fault Refusal := readRegister s (BitVec.ofNat 32 s.pkw)

/-- Write PKT_WORDS, which is read-only: ignored (R401). -/
def execWrPktWords (_w : Word) (s : State) : Host.Outcome State Fault Refusal := ignoreWrite s

end Sys2Proof.Machine
end

