-- ==== Sys2Proof/Machine/HostStats.lean ====
section
/-! DEFINITION. The meanings of the statistics register accesses (R480 to R490) and of the SPEC window (R491); their writes are ignored
(R401). -/

namespace Sys2Proof.Machine

/-- Read ST_SEQ (R480). -/
def execRdStSeq (s : State) : Host.Outcome State Fault Refusal := readRegister s s.stats.seq

/-- Write ST_SEQ, which is read-only: ignored (R401). -/
def execWrStSeq (_w : Word) (s : State) : Host.Outcome State Fault Refusal := ignoreWrite s

/-- Read ST_F0 (R481). -/
def execRdStF0 (s : State) : Host.Outcome State Fault Refusal := readRegister s s.stats.f0

/-- Write ST_F0, which is read-only: ignored (R401). -/
def execWrStF0 (_w : Word) (s : State) : Host.Outcome State Fault Refusal := ignoreWrite s

/-- Read ST_F1 (R482). -/
def execRdStF1 (s : State) : Host.Outcome State Fault Refusal := readRegister s s.stats.f1

/-- Write ST_F1, which is read-only: ignored (R401). -/
def execWrStF1 (_w : Word) (s : State) : Host.Outcome State Fault Refusal := ignoreWrite s

/-- Read ST_TIMING (R483). -/
def execRdStTiming (s : State) : Host.Outcome State Fault Refusal := readRegister s (s.stats.timing.setWidth 32)

/-- Write ST_TIMING, which is read-only: ignored (R401). -/
def execWrStTiming (_w : Word) (s : State) : Host.Outcome State Fault Refusal := ignoreWrite s

/-- Read ST_NOUT (R484). -/
def execRdStNout (s : State) : Host.Outcome State Fault Refusal := readRegister s s.stats.nout

/-- Write ST_NOUT, which is read-only: ignored (R401). -/
def execWrStNout (_w : Word) (s : State) : Host.Outcome State Fault Refusal := ignoreWrite s

/-- Read ST_SIG (R485). -/
def execRdStSig (s : State) : Host.Outcome State Fault Refusal := readRegister s s.stats.sig

/-- Write ST_SIG, which is read-only: ignored (R401). -/
def execWrStSig (_w : Word) (s : State) : Host.Outcome State Fault Refusal := ignoreWrite s

/-- Read ST_NOISE (R486). -/
def execRdStNoise (s : State) : Host.Outcome State Fault Refusal := readRegister s s.stats.noise

/-- Write ST_NOISE, which is read-only: ignored (R401). -/
def execWrStNoise (_w : Word) (s : State) : Host.Outcome State Fault Refusal := ignoreWrite s

/-- Read ST_EAVG (R487). -/
def execRdStEavg (s : State) : Host.Outcome State Fault Refusal := readRegister s s.stats.eavg

/-- Write ST_EAVG, which is read-only: ignored (R401). -/
def execWrStEavg (_w : Word) (s : State) : Host.Outcome State Fault Refusal := ignoreWrite s

/-- Read ST_FLAGS (R488). -/
def execRdStFlags (s : State) : Host.Outcome State Fault Refusal := readRegister s (s.stats.flags.setWidth 32)

/-- Write ST_FLAGS, which is read-only: ignored (R401). -/
def execWrStFlags (_w : Word) (s : State) : Host.Outcome State Fault Refusal := ignoreWrite s

/-- Read ST_PEAKS (R489). -/
def execRdStPeaks (s : State) : Host.Outcome State Fault Refusal := readRegister s s.stats.peaks

/-- Write ST_PEAKS, which is read-only: ignored (R401). -/
def execWrStPeaks (_w : Word) (s : State) : Host.Outcome State Fault Refusal := ignoreWrite s

/-- Read ST_BLOCK (R490). -/
def execRdStBlock (s : State) : Host.Outcome State Fault Refusal := readRegister s s.stats.block

/-- Write ST_BLOCK, which is read-only: ignored (R401). -/
def execWrStBlock (_w : Word) (s : State) : Host.Outcome State Fault Refusal := ignoreWrite s

/-- What SPEC[k] reads as: SPEC_MEM[k] where ST_FLAGS.VALID = 1 and k < SNAP_NF, otherwise 0 (R143, R491). -/
def State.specRead (s : State) (k : Nat) : Word :=
  if s.stats.flags.getLsbD 2 && decide (k < s.snapNf) then s.specMem.getD k 0 else 0

/-- Read SPEC[k] (R491). -/
def execRdSpec (k : BitVec 10) (s : State) : Host.Outcome State Fault Refusal := readRegister s (s.specRead k.toNat)

/-- Write SPEC[k], a read-only window: ignored (R401). -/
def execWrSpec (_k : BitVec 10) (_w : Word) (s : State) : Host.Outcome State Fault Refusal := ignoreWrite s

end Sys2Proof.Machine
end

