-- ==== Sys2Proof/Machine/Dispatch.lean ====
section
/-! DEFINITION. Dispatch: one arm per instruction, each a direct call of its meaning. -/

namespace Sys2Proof.Machine

def exec (i : Instr) (s : State) : Host.Outcome State Fault Refusal :=
  match i with
  | .nop => Sys2Proof.Machine.execNop s
  | .softReset => Sys2Proof.Machine.execSoftReset s
  | .configure => Sys2Proof.Machine.execConfigure s
  | .start => Sys2Proof.Machine.execStart s
  | .stop => Sys2Proof.Machine.execStop s
  | .resync => Sys2Proof.Machine.execResync s
  | .clearCounters => Sys2Proof.Machine.execClearCounters s
  | .flushPackets => Sys2Proof.Machine.execFlushPackets s
  | .cmdIllegal w => Sys2Proof.Machine.execCmdIllegal w s
  | .rdId => Sys2Proof.Machine.execRdId s
  | .wrId wdata => Sys2Proof.Machine.execWrId wdata s
  | .rdVersion => Sys2Proof.Machine.execRdVersion s
  | .wrVersion wdata => Sys2Proof.Machine.execWrVersion wdata s
  | .rdCmd => Sys2Proof.Machine.execRdCmd s
  | .wrCmd wdata => Sys2Proof.Machine.execWrCmd wdata s
  | .rdStatus => Sys2Proof.Machine.execRdStatus s
  | .wrStatus wdata => Sys2Proof.Machine.execWrStatus wdata s
  | .rdErr => Sys2Proof.Machine.execRdErr s
  | .wrErr wdata => Sys2Proof.Machine.execWrErr wdata s
  | .rdCfgErr => Sys2Proof.Machine.execRdCfgErr s
  | .wrCfgErr wdata => Sys2Proof.Machine.execWrCfgErr wdata s
  | .rdIrqStatus => Sys2Proof.Machine.execRdIrqStatus s
  | .wrIrqStatus wdata => Sys2Proof.Machine.execWrIrqStatus wdata s
  | .rdIrqEnable => Sys2Proof.Machine.execRdIrqEnable s
  | .wrIrqEnable wdata => Sys2Proof.Machine.execWrIrqEnable wdata s
  | .rdFsHz => Sys2Proof.Machine.execRdFsHz s
  | .wrFsHz wdata => Sys2Proof.Machine.execWrFsHz wdata s
  | .rdRsHz => Sys2Proof.Machine.execRdRsHz s
  | .wrRsHz wdata => Sys2Proof.Machine.execWrRsHz wdata s
  | .rdDemodCfg => Sys2Proof.Machine.execRdDemodCfg s
  | .wrDemodCfg wdata => Sys2Proof.Machine.execWrDemodCfg wdata s
  | .rdNsym => Sys2Proof.Machine.execRdNsym s
  | .wrNsym wdata => Sys2Proof.Machine.execWrNsym wdata s
  | .rdAcqCfg => Sys2Proof.Machine.execRdAcqCfg s
  | .wrAcqCfg wdata => Sys2Proof.Machine.execWrAcqCfg wdata s
  | .rdStatsCfg => Sys2Proof.Machine.execRdStatsCfg s
  | .wrStatsCfg wdata => Sys2Proof.Machine.execWrStatsCfg wdata s
  | .rdUwCfg => Sys2Proof.Machine.execRdUwCfg s
  | .wrUwCfg wdata => Sys2Proof.Machine.execWrUwCfg wdata s
  | .rdUwLo => Sys2Proof.Machine.execRdUwLo s
  | .wrUwLo wdata => Sys2Proof.Machine.execWrUwLo wdata s
  | .rdUwHi => Sys2Proof.Machine.execRdUwHi s
  | .wrUwHi wdata => Sys2Proof.Machine.execWrUwHi wdata s
  | .rdFrameGap => Sys2Proof.Machine.execRdFrameGap s
  | .wrFrameGap wdata => Sys2Proof.Machine.execWrFrameGap wdata s
  | .rdLdpcNk => Sys2Proof.Machine.execRdLdpcNk s
  | .wrLdpcNk wdata => Sys2Proof.Machine.execWrLdpcNk wdata s
  | .rdLdpcAlg => Sys2Proof.Machine.execRdLdpcAlg s
  | .wrLdpcAlg wdata => Sys2Proof.Machine.execWrLdpcAlg wdata s
  | .rdHLen => Sys2Proof.Machine.execRdHLen s
  | .wrHLen wdata => Sys2Proof.Machine.execWrHLen wdata s
  | .rdHAddr => Sys2Proof.Machine.execRdHAddr s
  | .wrHAddr wdata => Sys2Proof.Machine.execWrHAddr wdata s
  | .rdHData => Sys2Proof.Machine.execRdHData s
  | .wrHData wdata => Sys2Proof.Machine.execWrHData wdata s
  | .rdSampleData => Sys2Proof.Machine.execRdSampleData s
  | .wrSampleData wdata => Sys2Proof.Machine.execWrSampleData wdata s
  | .rdSampCount => Sys2Proof.Machine.execRdSampCount s
  | .wrSampCount wdata => Sys2Proof.Machine.execWrSampCount wdata s
  | .rdSampFree => Sys2Proof.Machine.execRdSampFree s
  | .wrSampFree wdata => Sys2Proof.Machine.execWrSampFree wdata s
  | .rdPktCount => Sys2Proof.Machine.execRdPktCount s
  | .wrPktCount wdata => Sys2Proof.Machine.execWrPktCount wdata s
  | .rdPktData => Sys2Proof.Machine.execRdPktData s
  | .wrPktData wdata => Sys2Proof.Machine.execWrPktData wdata s
  | .rdPktWords => Sys2Proof.Machine.execRdPktWords s
  | .wrPktWords wdata => Sys2Proof.Machine.execWrPktWords wdata s
  | .rdCntBlocks => Sys2Proof.Machine.execRdCntBlocks s
  | .wrCntBlocks wdata => Sys2Proof.Machine.execWrCntBlocks wdata s
  | .rdCntBits => Sys2Proof.Machine.execRdCntBits s
  | .wrCntBits wdata => Sys2Proof.Machine.execWrCntBits wdata s
  | .rdCntSyncAcq => Sys2Proof.Machine.execRdCntSyncAcq s
  | .wrCntSyncAcq wdata => Sys2Proof.Machine.execWrCntSyncAcq wdata s
  | .rdCntSyncLoss => Sys2Proof.Machine.execRdCntSyncLoss s
  | .wrCntSyncLoss wdata => Sys2Proof.Machine.execWrCntSyncLoss wdata s
  | .rdCntUwMiss => Sys2Proof.Machine.execRdCntUwMiss s
  | .wrCntUwMiss wdata => Sys2Proof.Machine.execWrCntUwMiss wdata s
  | .rdCntFrames => Sys2Proof.Machine.execRdCntFrames s
  | .wrCntFrames wdata => Sys2Proof.Machine.execWrCntFrames wdata s
  | .rdCntFecFail => Sys2Proof.Machine.execRdCntFecFail s
  | .wrCntFecFail wdata => Sys2Proof.Machine.execWrCntFecFail wdata s
  | .rdCntCrcFail => Sys2Proof.Machine.execRdCntCrcFail s
  | .wrCntCrcFail wdata => Sys2Proof.Machine.execWrCntCrcFail wdata s
  | .rdCntPktOk => Sys2Proof.Machine.execRdCntPktOk s
  | .wrCntPktOk wdata => Sys2Proof.Machine.execWrCntPktOk wdata s
  | .rdCntLowSignal => Sys2Proof.Machine.execRdCntLowSignal s
  | .wrCntLowSignal wdata => Sys2Proof.Machine.execWrCntLowSignal wdata s
  | .rdCntSampDrop => Sys2Proof.Machine.execRdCntSampDrop s
  | .wrCntSampDrop wdata => Sys2Proof.Machine.execWrCntSampDrop wdata s
  | .rdLastDecode => Sys2Proof.Machine.execRdLastDecode s
  | .wrLastDecode wdata => Sys2Proof.Machine.execWrLastDecode wdata s
  | .rdLastUw => Sys2Proof.Machine.execRdLastUw s
  | .wrLastUw wdata => Sys2Proof.Machine.execWrLastUw wdata s
  | .rdStSeq => Sys2Proof.Machine.execRdStSeq s
  | .wrStSeq wdata => Sys2Proof.Machine.execWrStSeq wdata s
  | .rdStF0 => Sys2Proof.Machine.execRdStF0 s
  | .wrStF0 wdata => Sys2Proof.Machine.execWrStF0 wdata s
  | .rdStF1 => Sys2Proof.Machine.execRdStF1 s
  | .wrStF1 wdata => Sys2Proof.Machine.execWrStF1 wdata s
  | .rdStTiming => Sys2Proof.Machine.execRdStTiming s
  | .wrStTiming wdata => Sys2Proof.Machine.execWrStTiming wdata s
  | .rdStNout => Sys2Proof.Machine.execRdStNout s
  | .wrStNout wdata => Sys2Proof.Machine.execWrStNout wdata s
  | .rdStSig => Sys2Proof.Machine.execRdStSig s
  | .wrStSig wdata => Sys2Proof.Machine.execWrStSig wdata s
  | .rdStNoise => Sys2Proof.Machine.execRdStNoise s
  | .wrStNoise wdata => Sys2Proof.Machine.execWrStNoise wdata s
  | .rdStEavg => Sys2Proof.Machine.execRdStEavg s
  | .wrStEavg wdata => Sys2Proof.Machine.execWrStEavg wdata s
  | .rdStFlags => Sys2Proof.Machine.execRdStFlags s
  | .wrStFlags wdata => Sys2Proof.Machine.execWrStFlags wdata s
  | .rdStPeaks => Sys2Proof.Machine.execRdStPeaks s
  | .wrStPeaks wdata => Sys2Proof.Machine.execWrStPeaks wdata s
  | .rdStBlock => Sys2Proof.Machine.execRdStBlock s
  | .wrStBlock wdata => Sys2Proof.Machine.execWrStBlock wdata s
  | .rdSpec k => Sys2Proof.Machine.execRdSpec k s
  | .wrSpec k wdata => Sys2Proof.Machine.execWrSpec k wdata s
  | .reserved05C a => Sys2Proof.Machine.execReserved05C a s
  | .reserved06C a => Sys2Proof.Machine.execReserved06C a s
  | .reserved07C a => Sys2Proof.Machine.execReserved07C a s
  | .reserved0B4 a => Sys2Proof.Machine.execReserved0B4 a s
  | .reserved0B8 a => Sys2Proof.Machine.execReserved0B8 a s
  | .reserved0BC a => Sys2Proof.Machine.execReserved0BC a s
  | .reserved0EC a => Sys2Proof.Machine.execReserved0EC a s
  | .reserved0F0 j a => Sys2Proof.Machine.execReserved0F0 j a s
  | .reserved100 j a => Sys2Proof.Machine.execReserved100 j a s
  | .reserved200 j a => Sys2Proof.Machine.execReserved200 j a s
  | .reserved400 j a => Sys2Proof.Machine.execReserved400 j a s
  | .reserved800 j a => Sys2Proof.Machine.execReserved800 j a s
  | .misaligned1 hi a => Sys2Proof.Machine.execMisaligned1 hi a s
  | .misaligned2 hi a => Sys2Proof.Machine.execMisaligned2 hi a s
  | .misaligned3 hi a => Sys2Proof.Machine.execMisaligned3 hi a s

end Sys2Proof.Machine
end

