-- ==== Sys2Proof/Machine/Rom.lean ====
section
/-! DEFINITION. The sine ROM and the analysis window (R610 to R612). -/

namespace Sys2Proof.Machine

/-- QTAB[0] on (R610). -/
def quarterSine0 : List Nat := [0, 201, 402, 603, 804, 1005, 1206, 1407, 1608, 1809, 2009, 2210, 2410, 2611, 2811, 3012]
/-- QTAB[16] on (R610). -/
def quarterSine16 : List Nat := [3212, 3412, 3612, 3811, 4011, 4210, 4410, 4609, 4808, 5007, 5205, 5404, 5602, 5800, 5998, 6195]
/-- QTAB[32] on (R610). -/
def quarterSine32 : List Nat := [6393, 6590, 6786, 6983, 7179, 7375, 7571, 7767, 7962, 8157, 8351, 8545, 8739, 8933, 9126, 9319]
/-- QTAB[48] on (R610). -/
def quarterSine48 : List Nat := [9512, 9704, 9896, 10087, 10278, 10469, 10659, 10849, 11039, 11228, 11417, 11605, 11793, 11980, 12167, 12353]
/-- QTAB[64] on (R610). -/
def quarterSine64 : List Nat := [12539, 12725, 12910, 13094, 13279, 13462, 13645, 13828, 14010, 14191, 14372, 14553, 14732, 14912, 15090, 15269]
/-- QTAB[80] on (R610). -/
def quarterSine80 : List Nat := [15446, 15623, 15800, 15976, 16151, 16325, 16499, 16673, 16846, 17018, 17189, 17360, 17530, 17700, 17869, 18037]
/-- QTAB[96] on (R610). -/
def quarterSine96 : List Nat := [18204, 18371, 18537, 18703, 18868, 19032, 19195, 19357, 19519, 19680, 19841, 20000, 20159, 20317, 20475, 20631]
/-- QTAB[112] on (R610). -/
def quarterSine112 : List Nat := [20787, 20942, 21096, 21250, 21403, 21554, 21705, 21856, 22005, 22154, 22301, 22448, 22594, 22739, 22884, 23027]
/-- QTAB[128] on (R610). -/
def quarterSine128 : List Nat := [23170, 23311, 23452, 23592, 23731, 23870, 24007, 24143, 24279, 24413, 24547, 24680, 24811, 24942, 25072, 25201]
/-- QTAB[144] on (R610). -/
def quarterSine144 : List Nat := [25329, 25456, 25582, 25708, 25832, 25955, 26077, 26198, 26319, 26438, 26556, 26674, 26790, 26905, 27019, 27133]
/-- QTAB[160] on (R610). -/
def quarterSine160 : List Nat := [27245, 27356, 27466, 27575, 27683, 27790, 27896, 28001, 28105, 28208, 28310, 28411, 28510, 28609, 28706, 28803]
/-- QTAB[176] on (R610). -/
def quarterSine176 : List Nat := [28898, 28992, 29085, 29177, 29268, 29358, 29447, 29534, 29621, 29706, 29791, 29874, 29956, 30037, 30117, 30195]
/-- QTAB[192] on (R610). -/
def quarterSine192 : List Nat := [30273, 30349, 30424, 30498, 30571, 30643, 30714, 30783, 30852, 30919, 30985, 31050, 31113, 31176, 31237, 31297]
/-- QTAB[208] on (R610). -/
def quarterSine208 : List Nat := [31356, 31414, 31470, 31526, 31580, 31633, 31685, 31736, 31785, 31833, 31880, 31926, 31971, 32014, 32057, 32098]
/-- QTAB[224] on (R610). -/
def quarterSine224 : List Nat := [32137, 32176, 32213, 32250, 32285, 32318, 32351, 32382, 32412, 32441, 32469, 32495, 32521, 32545, 32567, 32589]
/-- QTAB[240] on (R610). -/
def quarterSine240 : List Nat := [32609, 32628, 32646, 32663, 32678, 32692, 32705, 32717, 32728, 32737, 32745, 32752, 32757, 32761, 32765, 32766]
/-- QTAB[256] on (R610). -/
def quarterSine256 : List Nat := [32767]

/-- QTAB, the quarter-wave table of 257 entries; the table is normative (R610). -/
def quarterSine : List Nat :=
  quarterSine0 ++ quarterSine16 ++ quarterSine32 ++ quarterSine48 ++ quarterSine64 ++ quarterSine80 ++
    quarterSine96 ++ quarterSine112 ++ quarterSine128 ++ quarterSine144 ++ quarterSine160 ++ quarterSine176 ++
    quarterSine192 ++ quarterSine208 ++ quarterSine224 ++ quarterSine240 ++ quarterSine256

/-- QTAB[k] as an integer. -/
def qtab (k : Nat) : Int := (quarterSine.getD k 0 : Nat)

/-- SIN of a phase index reduced to [0, 1024) (R611). -/
def sinIndex (j : Nat) : Int :=
  if j ≤ 256 then qtab j
  else if j ≤ 512 then qtab (512 - j)
  else if j ≤ 768 then -qtab (j - 512)
  else -qtab (1024 - j)

/-- SIN(i) for any integer i, reduced mod 1024 (R611). -/
def sine (i : Int) : Int := sinIndex (i % 1024).toNat

/-- COS(i) = SIN(i + 256) (R611). -/
def cosine (i : Int) : Int := sine (i + 256)

/-- The Hann window w[n] for an FFT of nf points (R612). -/
def window (nf n : Nat) : Int := asr (32768 - cosine ((n * (1024 / nf) : Nat) : Int)) 1

end Sys2Proof.Machine
end

