-- ==== Sys2Proof/Machine/Fft.lean ====
section
/-! DEFINITION. The windowed FFT and the tone detector (R613 to R623). -/

namespace Sys2Proof.Machine

/-- `bitrev_L(j)`, the L-bit reversal of j (R614). -/
def bitrev : Nat → Nat → Nat
  | 0, _ => 0
  | l + 1, j => (j % 2) * 2 ^ l + bitrev l (j / 2)

/-- FFT input: the last Nf samples of the block times the window, each component asr 15 (R613). -/
def windowed (nf : Nat) (x : List Cplx) : List Cplx :=
  (x.drop (x.length - nf)).zipIdx.map fun (u, n) => ⟨asr (u.re * window nf n) 15, asr (u.im * window nf n) 15⟩

/-- `(tr, ti)` of a butterfly: b times the twiddle factor of index tw (R614). -/
def twiddle (b : Cplx) (tw : Nat) : Cplx :=
  let wc := cosine tw
  let ws := sine tw
  ⟨asr (b.re * wc + b.im * ws) 15, asr (b.im * wc - b.re * ws) 15⟩

/-- Entry `i` of the array after stage `t`, from the array `a` before it: the group base g and the place j within the group
give the pair a[g+j], a[g+j+half]; the lower half of the group takes (u + t)/2, the upper half (u - t)/2 (R614). -/
def fftEntry (t : Nat) (a : List Cplx) (i : Nat) : Cplx :=
  let half := 2 ^ (t - 1)
  let span := 2 ^ t
  let j := i % half
  let g := i / span * span
  let u := a.getD (g + j) Cplx.zero
  let v := twiddle (a.getD (g + j + half) Cplx.zero) (j * (1024 / span))
  if i % span < half then ⟨asr (u.re + v.re) 1, asr (u.im + v.im) 1⟩
  else ⟨asr (u.re - v.re) 1, asr (u.im - v.im) 1⟩

/-- Stage `t` of the FFT over an array of nf points (R614). -/
def fftStage (nf t : Nat) (a : List Cplx) : List Cplx := (List.range nf).map (fftEntry t a)

/-- The stages 1 to `t`, in order (R614). -/
def fftStages (nf : Nat) (a : List Cplx) : Nat → List Cplx
  | 0 => a
  | t + 1 => fftStage nf (t + 1) (fftStages nf a t)

/-- X, the FFT of the 2^l points xw (R614). -/
def fft (l : Nat) (xw : List Cplx) : List Cplx :=
  fftStages (2 ^ l) ((List.range (2 ^ l)).map fun j => xw.getD (bitrev l j) Cplx.zero) l

/-- The bin powers P[k] of a block of samples (R613 to R615). -/
def binPowers (c : CfgRegs) (x : List Cplx) : List Int := (fft c.log2Nf (windowed c.nf x)).map normSq

/-- The acquisition window B: the signed bins C - W to C + W in increasing order (R620). -/
def acqBins (c : CfgRegs) : List Int := (List.range (2 * c.acqHalf + 1)).map fun n => c.acqCenter - c.acqHalf + n

/-- Pb(kb) = P[kb mod Nf], the power of a signed bin (R620). -/
def signedPower (c : CfgRegs) (p : List Int) (kb : Int) : Int := p.getD (kb % (c.nf : Int)).toNat 0

/-- Is the bin more than G away from k? (R622) -/
def outsideGuard (c : CfgRegs) (k kb : Int) : Bool := decide ((c.toneGuard : Int) < |kb - k|)

/-- k1, the first bin of B with the greatest power (R621). -/
def strongestBin (c : CfgRegs) (p : List Int) : Int := firstMax (signedPower c p) 0 (acqBins c)

/-- k2, the first bin of B more than G away from k1 with the greatest power (R622). -/
def secondBin (c : CfgRegs) (p : List Int) (k1 : Int) : Int :=
  firstMax (signedPower c p) 0 ((acqBins c).filter (outsideGuard c k1))

/-- BN, the bins of B outside both guards (R623). -/
def noiseBins (c : CfgRegs) (k1 k2 : Int) : List Int :=
  (acqBins c).filter fun kb => outsideGuard c k1 kb && outsideGuard c k2 kb

/-- What ToneSearch finds in a block (R600, R620 to R623). -/
structure Tones where
  k1 : Int
  k2 : Int
  /-- Nz, the mean noise-bin power. -/
  nz : Int
  /-- sig, the two peak powers summed. -/
  sig : Int
  /-- The low-signal flag. -/
  low : Bool
  deriving DecidableEq, Repr

/-- ToneSearch over the bin powers (R620 to R623). -/
def toneSearch (c : CfgRegs) (p : List Int) : Tones :=
  let k1 := strongestBin c p
  let k2 := secondBin c p k1
  let bn := noiseBins c k1 k2
  let nz := (bn.map (signedPower c p)).sum / (bn.length : Int)
  let sig := signedPower c p k1 + signedPower c p k2
  { k1 := k1, k2 := k2, nz := nz, sig := sig, low := decide (sig ≤ (c.snrFloor : Int) * nz) }

end Sys2Proof.Machine
end

