-- ==== Sys2Proof/Machine/Demod.lean ====
section
/-! DEFINITION. The demodulator's part of the block step: frequency estimates, down-mixer, matched filter, timing, symbol
emission and soft bits (R630 to R651). -/

namespace Sys2Proof.Machine

/-- The NCO word of a signed bin: kb · 2^(32 - L) (R630). -/
def binNco (c : CfgRegs) (kb : Int) : Int := kb * 2 ^ (32 - c.log2Nf)

/-- The new estimate of one tone from its measurement g: g outright in the first block after DEMOD_INIT, else a step of
asr(g - f, s); held as a signed 32-bit word (R150, R631). -/
def smooth (c : CfgRegs) (fValid : Bool) (f : Word) (g : Int) : Word :=
  if fValid then BitVec.ofInt 32 (f.toInt + asr (g - f.toInt) c.smoothShift) else BitVec.ofInt 32 g

/-- One mixed sample at phase phi: x times exp(-i·2π·phi/2^32) (R632). -/
def mixSample (phi : Word) (x : Cplx) : Cplx :=
  let idx : Nat := (phi >>> 22).toNat
  let cn := cosine idx
  let sn := sine idx
  ⟨asr (x.re * cn + x.im * sn) 15, asr (x.im * cn - x.re * sn) 15⟩

/-- The mixed block of one branch: phi moves on by f mod 2^32 after each sample (R632). -/
def mixBlock (f phi : Word) : List Cplx → List Cplx
  | [] => []
  | x :: xs => mixSample phi x :: mixBlock f (phi + f) xs

/-- The phase after a block of n samples (R632). -/
def phaseAfter (f phi : Word) (n : Nat) : Word := phi + BitVec.ofNat 32 n * f

/-- `cnt` sums of `os` successive entries, the first one starting at the head of the list. -/
def boxcar (os : Nat) : Nat → List Cplx → List Int
  | 0, _ => []
  | cnt + 1, zs => normSq (csum (zs.take os)) :: boxcar os cnt zs.tail

/-- The matched filter of one branch: A[n] for n in [-OS, N), the entry of n at place n + OS. The history and the mixed
block make one list whose place m + 2·OS is ym(m); the sum that ends at n starts at place n + OS + 1 (R640). -/
def matchedFilter (c : CfgRegs) (yhist y : List Cplx) : List Int :=
  boxcar c.os (c.blockLen + c.os) ((yhist ++ y).drop 1)

/-- A[n] of a matched filter's output, for n ≥ -OS (R640). -/
def energyAt (c : CfgRegs) (a : List Int) (n : Int) : Int := a.getD (n + c.os).toNat 0

/-- E[p], the summed energy of both branches at the instants n ≡ p (mod OS) of the block (R641). -/
def phaseEnergy (c : CfgRegs) (a0 a1 : List Int) (p : Nat) : Int :=
  ((List.range c.symbols).map fun m =>
    energyAt c a0 ((p + m * c.os : Nat) : Int) + energyAt c a1 ((p + m * c.os : Nat) : Int)).sum

/-- p*, the least phase with the greatest energy (R641). -/
def timingPhase (c : CfgRegs) (a0 a1 : List Int) : Nat := firstMax (phaseEnergy c a0 a1) 0 (List.range c.os)

/-- Cset: the instants c ≡ p* (mod OS) with LAST + OS/2 < c < N, in increasing order (R642). -/
def symbolInstants (c : CfgRegs) (last : Int) (p : Nat) : List Int :=
  let lo := last + ((c.os / 2 : Nat) : Int) + 1
  ((List.range ((c.blockLen : Int) - lo).toNat).map fun n => lo + (n : Int)).filter fun i => (i - (p : Int)) % (c.os : Int) == 0

/-- The new LAST: the greatest instant less N (R642); LAST stays where there is no instant, which R643 excludes (log 13). -/
def lastAfter (c : CfgRegs) (last : Int) (cs : List Int) : Int :=
  match cs.getLast? with
  | some i => i - (c.blockLen : Int)
  | none => last

/-- T, the energy of both branches summed over the emitted instants (R645). -/
def totalEnergy (c : CfgRegs) (a0 a1 cs : List Int) : Int :=
  (cs.map fun i => energyAt c a0 i + energyAt c a1 i).sum

/-- One soft bit: clamp(tdiv(GAIN·(E0 - E1)·nout, T), -127, 127), or 0 where T = 0 (R645). -/
def softBit (gain nout : Nat) (e0 e1 t : Int) : Int :=
  if t = 0 then 0 else clamp (tdiv ((gain : Int) * (e0 - e1) * (nout : Int)) t) (-Config.qMax) Config.qMax

/-- The soft bits of a block in emission order (R645). -/
def softBits (c : CfgRegs) (a0 a1 cs : List Int) : List Int :=
  let t := totalEnergy c a0 a1 cs
  cs.map fun i => softBit c.softGain cs.length (energyAt c a0 i) (energyAt c a1 i) t

/-- The hard bit: 1 iff the soft bit is negative (R651). -/
def hardBit (v : Int) : Bool := decide (v < 0)

/-- What one block gives the rest of the step: the soft bits and the quantities of the statistics (R600, R662). -/
structure BlockOut where
  soft : List Int
  powers : List Int
  tones : Tones
  pstar : Nat
  total : Int
  deriving DecidableEq, Repr

/-- A branch with its new estimate (R631). -/
def Branch.retune (c : CfgRegs) (fValid : Bool) (g : Int) (b : Branch) : Branch := { b with f := smooth c fValid b.f g }

/-- The mixed block of a branch (R632). -/
def Branch.mixed (b : Branch) (x : List Cplx) : List Cplx := mixBlock b.f b.phi x

/-- A branch at the end of the block: phi after N samples, YHIST the last 2·OS mixed samples (R632, R646). -/
def Branch.finish (c : CfgRegs) (y : List Cplx) (b : Branch) : Branch :=
  { b with phi := phaseAfter b.f b.phi c.blockLen, yhist := y.drop (c.blockLen - 2 * c.os) }

/-- The demodulator's part of EngineStep: ToneSearch, FreqUpdate, Mix, matched filter, Timing, Emit, soft bits, and the new
demodulator state but BSS (R600, R612 to R646). -/
def demodBlock (c : CfgRegs) (d : Demod) (x : List Cplx) : Demod × BlockOut :=
  let powers := binPowers c x
  let tones := toneSearch c powers
  let b0 := d.b0.retune c d.fValid (binNco c (min tones.k1 tones.k2))
  let b1 := d.b1.retune c d.fValid (binNco c (max tones.k1 tones.k2))
  let y0 := b0.mixed x
  let y1 := b1.mixed x
  let a0 := matchedFilter c b0.yhist y0
  let a1 := matchedFilter c b1.yhist y1
  let p := timingPhase c a0 a1
  let cs := symbolInstants c d.last p
  ({ b0 := b0.finish c y0
     b1 := b1.finish c y1
     fValid := true
     last := lastAfter c d.last cs
     ptim := p
     lowSig := tones.low
     bss := d.bss },
   { soft := softBits c a0 a1 cs, powers := powers, tones := tones, pstar := p, total := totalEnergy c a0 a1 cs })

end Sys2Proof.Machine
end

