-- ==== Sys2Proof/Machine/Ldpc.lean ====
section
/-! DEFINITION. The LDPC decoder (R800 to R808), packet assembly (R820), the checksum (R821) and the outcome gate (R822).
The messages of the edges are held row by row: entry e of a row's message list belongs to entry e of the row. -/

namespace Sys2Proof.Machine

/-- r[e] of one edge, from the messages q of the other edges of its row (R804). -/
def checkMessage (scale offset : Nat) (others : List Int) : Int :=
  let neg := others.countP fun q => decide (q < 0)
  let mn : Nat := (others.map Int.natAbs).min?.getD 0
  let mag : Int := max 0 (asr ((mn : Int) * (scale : Int)) 3 - (offset : Int))
  if neg % 2 = 1 then -mag else mag

/-- The check-node update of one row: every edge from all the others (R804). -/
def checkUpdate (scale offset : Nat) (q : List Int) : List Int :=
  (List.range q.length).map fun e => checkMessage scale offset (q.eraseIdx e)

/-- The messages r of the edges of variable v: those of V(v) (R800, R805). -/
def variableMessages (rows : List (List Nat)) (r : List (List Int)) (v : Nat) : List Int :=
  ((rows.flatten.zip r.flatten).filter fun (u, _) => u == v).map Prod.snd

/-- S[v] = L[v] + Σ r[e] over V(v), for every v (R805). -/
def variableSums (rows : List (List Nat)) (l : List Int) (r : List (List Int)) : List Int :=
  l.zipIdx.map fun (x, v) => x + (variableMessages rows r v).sum

/-- q[e] = clamp(S[var(e)] - r[e]) for the edges of one row (R805). -/
def variableUpdate (sums : List Int) (row : List Nat) (r : List Int) : List Int :=
  List.zipWith (fun v x => clamp (sums.getD v 0 - x) (-Config.qMax) Config.qMax) row r

/-- The hard decisions: 1 iff negative, so 0 decides 0 (R803, R805). -/
def decisions (s : List Int) : List Bool := s.map hardBit

/-- Syndrome(c) = 0: in every row the bits of its variables XOR to 0 (R806). -/
def syndromeZero (rows : List (List Nat)) (c : List Bool) : Bool :=
  rows.all fun row => row.countP (fun v => c.getD v false) % 2 == 0

/-- The result of a decode: success, ITERS and the bits (R803, R807). -/
structure DecodeResult where
  success : Bool
  iters : Nat
  bits : List Bool
  deriving DecidableEq, Repr

/-- The iterations it + 1, it + 2, …, `left` of them at most: every check, then every variable, then the syndrome (R807). -/
def decodeLoop (rows : List (List Nat)) (scale offset : Nat) (l : List Int) :
    Nat → Nat → List (List Int) → List Bool → DecodeResult
  | 0, it, _, c => { success := false, iters := it, bits := c }
  | left + 1, it, q, _ =>
    let r := q.map (checkUpdate scale offset)
    let sums := variableSums rows l r
    let q' := List.zipWith (variableUpdate sums) rows r
    let c' := decisions sums
    if syndromeZero rows c' then { success := true, iters := it + 1, bits := c' }
    else decodeLoop rows scale offset l left (it + 1) q' c'

/-- q at iteration 0: the clamped channel values (R803). -/
def channelMessages (rows : List (List Nat)) (l : List Int) : List (List Int) :=
  rows.map fun row => row.map fun v => clamp (l.getD v 0) (-Config.qMax) Config.qMax

/-- Decode(L): iteration 0 on the channel decisions, then at most MAXIT flooding iterations (R803, R807). -/
def ldpcDecode (rows : List (List Nat)) (maxIt scale offset : Nat) (l : List Int) : DecodeResult :=
  let c := decisions l
  if syndromeZero rows c then { success := true, iters := 0, bits := c }
  else decodeLoop rows scale offset l maxIt 0 (channelMessages rows l) c

/-- A byte from eight bits, the first one bit 7 (R820). -/
def byteOfBits (bits : List Bool) : Byte := BitVec.ofNat 8 (bits.foldl (fun a b => 2 * a + b.toNat) 0)

/-- The packet: P bytes of the information bits, which come first in the codeword (R820). -/
def assemblePacket (pktBytes : Nat) (c : List Bool) : List Byte :=
  (List.range pktBytes).map fun b => byteOfBits ((List.range 8).map fun j => c.getD (8 * b + j) false)

/-- One bit step of the CRC: polynomial 0x1021 (R821). -/
def crcBit (crc : BitVec 16) : BitVec 16 := if crc.msb then (crc <<< 1) ^^^ 0x1021#16 else crc <<< 1

/-- `n` bit steps of the CRC (R821). -/
def crcBits : Nat → BitVec 16 → BitVec 16
  | 0, crc => crc
  | n + 1, crc => crcBits n (crcBit crc)

/-- One byte of the CRC: XOR into the high byte, then eight bit steps (R821). -/
def crcByte (crc : BitVec 16) (b : Byte) : BitVec 16 := crcBits 8 (crc ^^^ (b ++ 0#8))

/-- The CRC of a message: initial value 0xFFFF, no reflection, no final XOR (R821). -/
def crc16 (msg : List Byte) : BitVec 16 := msg.foldl crcByte 0xFFFF#16

/-- The checksum over pkt[0 .. P-3] equals the big-endian trailer pkt[P-2], pkt[P-1] (R821). -/
def crcOk (pkt : List Byte) : Bool :=
  crc16 (pkt.take (pkt.length - 2)) == pkt.getD (pkt.length - 2) 0 ++ pkt.getD (pkt.length - 1) 0

/-- The outcome gate: LAST_DECODE, then FEC failure, checksum failure, or the push of the packet (R822). -/
def State.decodeGate (s : State) (c : CfgRegs) (d : DecodeResult) : State :=
  let pkt := assemblePacket c.pktBytes d.bits
  let ok := d.success && crcOk pkt
  let s1 := { s with lastDecode := { iters := BitVec.ofNat 8 d.iters, parityOk := d.success, crcOk := ok, valid := true } }
  if !d.success then { s1 with cnt := { s1.cnt with fecFail := s1.cnt.fecFail + 1 } }
  else if !ok then { s1 with cnt := { s1.cnt with crcFail := s1.cnt.crcFail + 1 } }
  else { s1.pushPacket pkt with cnt := { s1.cnt with pktOk := s1.cnt.pktOk + 1 } }

/-- Decode(CW_BUF): the decoder over the code graph of H_MEM, then the gate (R712, R800, R822). -/
def State.decodeCodeword (s : State) (c : CfgRegs) (l : List Int) : State :=
  s.decodeGate c (ldpcDecode (graphRows (s.hEntries c.hCount)) c.maxIt c.scale c.offset l)

end Sys2Proof.Machine
end

