-- ==== Sys2Proof/Machine/FramerOps.lean ====
section
/-! DEFINITION. The unique-word framer: one FramerBit per soft bit (R700 to R717). -/

namespace Sys2Proof.Machine

/-- The window update: WIN <- ((WIN << 1) | h) mod 2^LUW, FILL <- min(FILL + 1, LUW) (R701). -/
def Framer.shiftIn (c : CfgRegs) (fr : Framer) (h : Bool) : Framer :=
  { fr with
    win := BitVec.ofNat 64 ((2 * fr.win.toNat + h.toNat) % 2 ^ c.luw)
    fill := min (fr.fill + 1) c.luw }

/-- The distance d = popcount(WIN XOR (UW mod 2^LUW)) (R702). -/
def Framer.distance (c : CfgRegs) (fr : Framer) : Nat :=
  popcount (fr.win ^^^ BitVec.ofNat 64 (c.uniqueWord.toNat % 2 ^ c.luw)) 64

/-- IRQ_STATUS.SYNC_CHG <- 1 (R710, R716). -/
def State.raiseSyncChg (s : State) : State := { s with irq := { s.irq with syncChg := true } }

/-- LAST_UW <- (VALID = 1, DIST = d) (R710, R714). -/
def State.recordUw (s : State) (d : Nat) : State := { s with lastUw := { dist := BitVec.ofNat 7 d, valid := true } }

/-- The framer turned to the next codeword of a Synchronized stream, with a run of `miss` misses (R710, R715, R717). -/
def State.toCodeword (s : State) (miss : Nat) : State :=
  { s with framer := { s.framer with fstate := .synchronized, phase := .cw, cnt := 0, miss := miss, cwBuf := [] } }

/-- SearchBit(): acquisition, checked once the window is full (R710). -/
def State.searchBit (s : State) (c : CfgRegs) : State :=
  if s.framer.fill = c.luw then
    let d := s.framer.distance c
    if d ≤ c.uwTol then
      let s1 := ((s.toCodeword 0).raiseSyncChg).recordUw d
      { s1 with cnt := { s1.cnt with syncAcq := s1.cnt.syncAcq + 1 } }
    else s
  else s

/-- CodewordDone(): count the frame, decode it within this bit, then skip the gap or await the marker (R712). -/
def State.codewordDone (s : State) (c : CfgRegs) : State :=
  let s1 := { s with cnt := { s.cnt with frames := s.cnt.frames + 1 } }
  let s2 := s1.decodeCodeword c (s.framer.cwBuf.take c.nCw)
  { s2 with framer := { s2.framer with phase := if 0 < c.gapBits then .gap else .uw, cnt := 0, cwBuf := [] } }

/-- MemWrite(CW_BUF, CNT, v): the bits before CNT stay, v is bit CNT (R711). -/
def Framer.collect (fr : Framer) (v : Int) : Framer := { fr with cwBuf := fr.cwBuf.take fr.cnt ++ [v], cnt := fr.cnt + 1 }

/-- SyncBit in PHASE CW: collect the codeword (R711). -/
def State.codewordBit (s : State) (c : CfgRegs) (v : Int) : State :=
  let s1 := { s with framer := s.framer.collect v }
  if s1.framer.cnt = c.nCw then s1.codewordDone c else s1

/-- SyncBit in PHASE GAP: skip the gap (R713). -/
def State.gapBit (s : State) (c : CfgRegs) : State :=
  if s.framer.cnt + 1 = c.gapBits then { s with framer := { s.framer with phase := .uw, cnt := 0 } }
  else { s with framer := { s.framer with cnt := s.framer.cnt + 1 } }

/-- LoseSync(): Searching, with WIN and FILL kept (R716). -/
def State.loseSync (s : State) : State :=
  let s1 :=
    { s.raiseSyncChg with framer := { s.framer with fstate := .searching, phase := .cw, cnt := 0, miss := 0, cwBuf := [] } }
  { s1 with cnt := { s1.cnt with syncLoss := s1.cnt.syncLoss + 1 } }

/-- MarkerMiss(): count the miss; LOSS_THRESH of them in a row lose sync, fewer keep the frame timing (R715). -/
def State.markerMiss (s : State) (c : CfgRegs) : State :=
  let miss := s.framer.miss + 1
  let s1 := { s with cnt := { s.cnt with uwMiss := s.cnt.uwMiss + 1 } }
  if c.lossThresh ≤ miss then s1.loseSync else s1.toCodeword miss

/-- MarkerMatch(): the run of misses ends (R717). -/
def State.markerMatch (s : State) : State := s.toCodeword 0

/-- SyncBit in PHASE UW: verify the marker at its expected position (R714). -/
def State.markerBit (s : State) (c : CfgRegs) : State :=
  if s.framer.cnt + 1 = c.luw then
    let d := s.framer.distance c
    let s1 := s.recordUw d
    if d ≤ c.uwTol then s1.markerMatch else s1.markerMiss c
  else { s with framer := { s.framer with cnt := s.framer.cnt + 1 } }

/-- SyncBit(v) by PHASE (R711 to R714). -/
def State.syncBit (s : State) (c : CfgRegs) (v : Int) : State :=
  match s.framer.phase with
  | .cw => s.codewordBit c v
  | .gap => s.gapBit c
  | .uw => s.markerBit c

/-- FramerBit(v): the window update comes first and runs in both states (R701). -/
def State.framerBit (s : State) (c : CfgRegs) (v : Int) : State :=
  let s1 := { s with framer := s.framer.shiftIn c (hardBit v) }
  match s1.framer.fstate with
  | .searching => s1.searchBit c
  | .synchronized => s1.syncBit c v

/-- The soft bits of a block go to the framer one at a time, soft[0] first (R652). -/
def State.framerBits (s : State) (c : CfgRegs) (soft : List Int) : State := soft.foldl (fun t v => t.framerBit c v) s

end Sys2Proof.Machine
end

