-- ==== Sys2Proof/Machine/Engine.lean ====
section
/-! DEFINITION. The engine's block step: when it is enabled, what it does, its counters and the statistics snapshot (R600 to
R602, R660 to R662). -/

namespace Sys2Proof.Machine

/-- May the engine take a block step? RUN, a block of samples, and room for Pmax packets (R601). -/
def State.engineEnabled (s : State) : Bool :=
  match s.mode with
  | .run c => decide (c.blockLen ≤ s.sampCount ∧ c.pMax ≤ s.pktFree)
  | _ => false

/-- The block counters (R660). -/
def Counters.countBlock (k : Counters) (nout : Nat) (low : Bool) : Counters :=
  { k with
    blocks := k.blocks + 1
    bits := k.bits + BitVec.ofNat 32 nout
    lowSignal := if low then k.lowSignal + 1 else k.lowSignal }

/-- Snapshot(): the ST_* registers, SPEC_MEM[0 .. Nf-1], SNAP_NF and IRQ_STATUS.STATS (R662). -/
def State.snapshot (s : State) (c : CfgRegs) (o : BlockOut) : State :=
  let nout := o.soft.length
  { s with
    stats :=
      { seq := s.stats.seq + 1
        f0 := s.demod.b0.f
        f1 := s.demod.b1.f
        timing := BitVec.ofNat 8 o.pstar
        nout := BitVec.ofNat 32 nout
        sig := sat32 o.tones.sig
        noise := sat32 o.tones.nz
        eavg := sat32 (o.total / (nout : Int) / 2 ^ 16)
        flags := snapshotFlags o.tones.low s.sync
        peaks := BitVec.ofInt 16 o.tones.k2 ++ BitVec.ofInt 16 o.tones.k1
        block := s.cnt.blocks }
    specMem := o.powers.map (BitVec.ofInt 32) ++ s.specMem.drop c.nf
    snapNf := c.nf
    irq := { s.irq with stats := true } }

/-- Is a snapshot due? STATS_DIV ≠ 0 and BSS, already incremented, is a multiple of it (R661). -/
def snapshotDue (c : CfgRegs) (bss : Word) : Bool := c.statsDiv != 0 && bss.toNat % c.statsDiv == 0

/-- The end of the block step: counters, BSS, and the snapshot where it is due (R600, R660, R661). -/
def State.endBlock (s : State) (c : CfgRegs) (o : BlockOut) : State :=
  let s1 :=
    { s with
      cnt := s.cnt.countBlock o.soft.length o.tones.low
      demod := { s.demod with bss := s.demod.bss + 1 } }
  if snapshotDue c s1.demod.bss then s1.snapshot c o else s1

/-- The samples of the next block, as the datapath reads them (R602). -/
def State.nextBlock (s : State) (c : CfgRegs) : List Cplx := (s.sampFifo.take c.blockLen).map Sample.toCplx

/-- EngineStep under the active configuration `c`, one atomic step (R600). -/
def State.engineStep (s : State) (c : CfgRegs) : State :=
  let (d, o) := demodBlock c s.demod (s.nextBlock c)
  let s1 := { s with sampFifo := s.sampFifo.drop c.blockLen, demod := d }
  (s1.framerBits c o.soft).endBlock c o

/-- A turn of the engine: a block step where one is enabled, otherwise nothing; a wait is not an error and nothing is
recorded (R601, R950; log 3). -/
def State.engineTurn (s : State) : State :=
  match s.mode with
  | .run c => if s.engineEnabled then s.engineStep c else s
  | _ => s

end Sys2Proof.Machine
end

