-- ==== Sys2Proof/Machine/Step.lean ====
section
/-! DEFINITION. Step: the next turn of the interleaving of host accesses and engine steps (R210), taken from the script. -/

namespace Sys2Proof.Machine

/-- A host operation: decoded, then executed; a request with no valid key is answered with the bus error (R400, R204; log 14). -/
def runHost (op : HostOp) (s : State) : Host.Outcome State Fault Refusal :=
  match decode op with
  | .ok i => exec i s
  | .error (.sizeNotFour a) => .next (s.busError a)

/-- One atomic step (R15, R210): the turn at the head of the script. With no turn left the engine still moves while it can
(the fairness of R1021; log 2), and otherwise the core waits (R950). -/
def step (s : State) : Host.Outcome State Fault Refusal :=
  match s.script with
  | [] => .next s.engineTurn
  | .engine :: rest => .next (State.engineTurn { s with script := rest })
  | .powerOn :: rest => .next (State.powerOnReset { s with script := rest })
  | .host op :: rest => runHost op { s with script := rest }

/-- `s` with the instruction numbered `w` by spec/opcode_table.json as the next turn: the host issues it next (log 4). -/
def State.withFetchWord (s : State) (nbits w : Nat) : State :=
  { s with script := .host (hostOpOfTable nbits w) :: s.script }

end Sys2Proof.Machine
end

