-- ==== Sys2Proof/Machine/HostProgram.lean ====
section
/-! DEFINITION. The host program statements of R360 as turns of the script: each statement maps onto bus accesses. -/

namespace Sys2Proof.Machine

/-- A host program statement (R360). Registers are given by their offset. -/
inductive HostStmt where
  /-- `WR <reg>, <value>` -/
  | wr (off : BitVec 13) (value : Word)
  /-- `RD <reg>` -/
  | rd (off : BitVec 13)
  /-- `CMD <mnemonic>` -/
  | cmd (k : Command)
  /-- `HLOAD <addr>, [e0, e1, ...]` -/
  | hload (addr : Word) (entries : List Word)
  /-- `SAMPLES [w0, w1, ...]` -/
  | samples (words : List Word)
  /-- `ACCESS <R or W>, <off>, <size>[, <value>]` -/
  | access (r : Request)
  /-- `WAIT <reg>, <mask>, <value>` -/
  | wait (off : BitVec 13) (mask value : Word)
  deriving DecidableEq, Repr

/-- OP of a command (R301). -/
def commandWord : Command → Word
  | .nop => 0x00
  | .softReset => 0x01
  | .configure => 0x02
  | .start => 0x03
  | .stop => 0x04
  | .resync => 0x05
  | .clearCounters => 0x06
  | .flushPackets => 0x07

/-- One W access of size 4. -/
def wrTurn (off : BitVec 13) (value : Word) : Turn := .host (busAccess off (.write value))

/-- One R access of size 4. -/
def rdTurn (off : BitVec 13) : Turn := .host (busAccess off .read)

/-- The bus accesses of a statement; a WAIT is its read repeated `polls` times (R360). -/
def HostStmt.turns (polls : Nat) : HostStmt → List Turn
  | .wr off value => [wrTurn off value]
  | .rd off => [rdTurn off]
  | .cmd k => [wrTurn 0x008 (commandWord k)]
  | .hload addr entries => wrTurn 0x054 addr :: entries.map (wrTurn 0x058)
  | .samples words => words.map (wrTurn 0x060)
  | .access r => [.host (.bus r)]
  | .wait off _ _ => List.replicate polls (rdTurn off)

/-- Has the WAIT's condition come true: (result AND mask) = value for the latest read (R360)? DESIGN CHOICE: R360 does not say
whether a read that ends in a bus error (resp = ERROR, rdata 0) has a result; only a read answered with OKAY counts (unsafe;
log 20). -/
def waitDone (s : State) (mask value : Word) : Bool :=
  match s.reply with
  | some { resp := .okay, rdata := some v } => v &&& mask == value
  | _ => false

end Sys2Proof.Machine
end

