-- ==== Sys2Proof/Safety.lean ====
section
/-! DEFINITION. What counts as a good state and a good run, in the words the statements use: error-free (R950), reserved bits 0
(R103), FIFOs within their depth (R131, R132), packets that passed the checksum (R822), a configuration that CONFIGURE would
pass (R120, R215), and the ranges of the demodulator's and the framer's state (R150, R151, R643). -/

namespace Sys2Proof.Machine

/-- The premise of a claim about a host program that must not err: ERR = 0 (R950). -/
def State.errFree (s : State) : Prop := s.err = 0

/-- Reserved bits of the configuration registers are 0 (R103, R302). -/
def CfgRegs.Masked (c : CfgRegs) : Prop :=
  c.demodCfg.getLsbD 11 = false ∧ c.nsym.extractLsb' 16 16 = 0 ∧ c.uwCfg.getLsbD 7 = false ∧ c.uwCfg.getLsbD 15 = false ∧
    c.uwCfg.extractLsb' 24 8 = 0 ∧ c.frameGap.extractLsb' 16 16 = 0 ∧ c.ldpcAlg.extractLsb' 12 4 = 0 ∧
    c.ldpcAlg.extractLsb' 23 9 = 0 ∧ c.hLen.extractLsb' 17 15 = 0

/-- The active configuration, where there is one (R120). -/
def Mode.active : Mode → Option CfgRegs
  | .ready c => some c
  | .run c => some c
  | _ => none

/-- The shadow and the active configuration have their reserved bits 0. -/
def State.ConfigMasked (s : State) : Prop := s.shadow.Masked ∧ ∀ c, s.mode.active = some c → c.Masked

/-- The active configuration passes every check against H_MEM as it stands: "the engine never runs with an H_MEM that differs
from the one the last passing CONFIGURE validated" (R215). -/
def State.ConfigValid (s : State) : Prop := ∀ c, s.mode.active = some c → s.validate c = 0

/-- SAMP_FIFO and PKT_FIFO hold no more than their depths (R131, R132). -/
def State.FifosBounded (s : State) : Prop := s.sampCount ≤ s.par.sampDepth ∧ s.pktCount ≤ s.par.pktDepth

/-- Every packet in PKT_FIFO passed the checksum (R430, R822). -/
def State.PacketsChecked (s : State) : Prop := ∀ pkt ∈ s.pktFifo, crcOk pkt = true

/-- Every packet in PKT_FIFO has PKW words, and RD_WORD points into the oldest one (R132). -/
def State.PacketsSized (s : State) : Prop :=
  (∀ pkt ∈ s.pktFifo, (pkt.length + 3) / 4 = s.pkw) ∧ (if s.pktFifo = [] then s.rdWord = 0 else s.rdWord < s.pkw)

/-- H_MEM is in its canonical form, within P_H_MAX entries (R130). -/
def State.MemoryOk (s : State) : Prop := s.hmem.wf = true ∧ ∀ e ∈ s.hmem, e.1 < s.par.hMax

/-- SPEC_MEM has 1024 entries and SNAP_NF is 0 or an FFT size (R133). -/
def State.SpectrumOk (s : State) : Prop := s.specMem.length = 1024 ∧ s.snapNf ∈ [0, 64, 128, 256, 512, 1024]

/-- The demodulator's ranges under a configuration: LAST in [-OS, -1] (R643), PTIM in [0, OS), 2·OS history entries a branch
(R150). -/
def Demod.Ok (c : CfgRegs) (d : Demod) : Prop :=
  -(c.os : Int) ≤ d.last ∧ d.last ≤ -1 ∧ d.ptim < c.os ∧ d.b0.yhist.length = 2 * c.os ∧ d.b1.yhist.length = 2 * c.os

/-- The framer's ranges under a configuration (R151): WIN has LUW bits, FILL ≤ LUW, MISS < LOSS_THRESH, CNT below the length
of the current phase, and CW_BUF holds CNT soft bits in [-127, 127] while a codeword is collected. -/
def Framer.Ok (c : CfgRegs) (fr : Framer) : Prop :=
  fr.win.toNat < 2 ^ c.luw ∧ fr.fill ≤ c.luw ∧ fr.miss < c.lossThresh ∧ (∀ v ∈ fr.cwBuf, -127 ≤ v ∧ v ≤ 127) ∧
    match fr.fstate, fr.phase with
    | .searching, p => p = .cw ∧ fr.cnt = 0 ∧ fr.miss = 0 ∧ fr.cwBuf = []
    | .synchronized, .cw => fr.cnt < c.nCw ∧ fr.cwBuf.length = fr.cnt
    | .synchronized, .gap => fr.cnt < c.gapBits ∧ fr.cwBuf = []
    | .synchronized, .uw => fr.cnt < c.luw ∧ fr.cwBuf = []

/-- In READY and RUN the demodulator, the framer and PKW agree with the active configuration (R1003, R132). -/
def State.EngineOk (s : State) : Prop :=
  ∀ c, s.mode.active = some c → s.demod.Ok c ∧ s.framer.Ok c ∧ s.pkw = c.pktWords

/-- The invariant of the machine: what every step keeps. -/
structure State.Inv (s : State) : Prop where
  legal : s.par.legal = true
  masked : s.ConfigMasked
  memory : s.MemoryOk
  valid : s.ConfigValid
  fifos : s.FifosBounded
  checked : s.PacketsChecked
  sized : s.PacketsSized
  spectrum : s.SpectrumOk
  engine : s.EngineOk

/-- Every sample waiting, every history entry and every soft bit collected is zero: the state of a core that has been fed
all-zero samples since its last START (R665). -/
def State.AllZero (s : State) : Prop :=
  (∀ x ∈ s.sampFifo, x = { re := 0, im := 0 }) ∧ (∀ z ∈ s.demod.b0.yhist, z = Cplx.zero) ∧
    (∀ z ∈ s.demod.b1.yhist, z = Cplx.zero) ∧ ∀ v ∈ s.framer.cwBuf, v = 0

/-! ## The words of the statements about host accesses -/

/-- resp = OKAY to a write (R204; log 5). -/
def okWrite : Option Reply := some { resp := .okay, rdata := none }

/-- resp = OKAY to a read, with its read data (R204). -/
def okRead (v : Word) : Option Reply := some { resp := .okay, rdata := some v }

/-- resp = ERROR: rdata 0 for a read (R900). -/
def errorReply (k : Kind) : Option Reply :=
  some { resp := .error, rdata := match k with | .read => some 0 | .write => none }

/-- The offsets of the register page that are not reserved (R102, R106): every aligned offset from 0x000 to 0x0E8 but 0x05C,
0x06C, 0x07C and 0x0B4 to 0x0BC. -/
def RegisterOffset (off : Nat) : Prop :=
  off % 4 = 0 ∧ off ≤ 0x0E8 ∧ off ≠ 0x05C ∧ off ≠ 0x06C ∧ off ≠ 0x07C ∧ off ≠ 0x0B4 ∧ off ≠ 0x0B8 ∧ off ≠ 0x0BC

/-- A request that R400 accepts: size 4, an aligned offset, and a register or a SPEC offset (R203, R204, R900). -/
def LegalRequest (r : Request) : Prop :=
  r.size = 4 ∧ r.off.toNat % 4 = 0 ∧ (RegisterOffset r.off.toNat ∨ 0x1000 ≤ r.off.toNat)

/-- `i` is a read with no side effect that returns `v s` with resp = OKAY, in every state. -/
def ReadsAs (i : Instr) (v : State → Word) : Prop := ∀ s, exec i s = .next { s with reply := okRead (v s) }

/-- `i` is a write that completes with resp = OKAY, in every state, and changes the state as `f` does and in nothing else. -/
def WritesAs (i : Instr) (f : State → State) : Prop := ∀ s, exec i s = .next { f s with reply := okWrite }

/-- `rd` and `wr` are the read and the write of a shadow configuration register: the write stores `wdata AND mask` into the
shadow and changes nothing else, the read returns the shadow's value (R103, section 6 of 40_host_access.md). -/
def ShadowRegister (rd : Instr) (wr : Word → Instr) (get : CfgRegs → Word) (put : CfgRegs → Word → CfgRegs) (mask : Word) :
    Prop :=
  ReadsAs rd (fun s => get s.shadow) ∧ ∀ w, WritesAs (wr w) fun s => { s with shadow := put s.shadow (w &&& mask) }

/-- `i`, an access of kind `a`, ends in a bus error: ERR.BUS, resp = ERROR, rdata 0 for a read, and nothing else (R900). -/
def EndsInBusError (i : Access → Instr) : Prop :=
  ∀ s, exec (i .read) s = .next { s with err := s.err ||| 0x100#9, reply := errorReply .read } ∧
    ∀ w, exec (i (.write w)) s = .next { s with err := s.err ||| 0x100#9, reply := errorReply .write }

/-- The ERR flag of bit `k` is set by a step from `s` to `t`: it was 0 and is 1 (R111). -/
def ErrRaised (s t : State) (k : Nat) : Prop := s.err.getLsbD k = false ∧ t.err.getLsbD k = true

/-- DEMOD_INIT for an oversampling factor, as R150 lists it. -/
def demodAtInit (os : Nat) : Demod :=
  { b0 := { f := 0, phi := 0, yhist := List.replicate (2 * os) ⟨0, 0⟩ }
    b1 := { f := 0, phi := 0, yhist := List.replicate (2 * os) ⟨0, 0⟩ }
    fValid := false, last := -((os : Int) / 2) - 1, ptim := 0, lowSig := false, bss := 0 }

/-- FRAMER_INIT as R151 lists it, with any CW_BUF: its contents are irrelevant there. -/
def framerAtInit (buf : List Int) : Framer :=
  { fstate := .searching, win := 0, fill := 0, phase := .cw, cnt := 0, miss := 0, cwBuf := buf }

/-- What R1001 lists for both kinds of reset, but for H_MEM and the void active configuration's DEMOD_INIT (log 11): every
register, FIFO, counter and the framer at its reset value. -/
structure State.AtReset (t : State) : Prop where
  mode : t.mode = .idle
  err : t.err = 0
  cfgErr : t.cfgErr = 0
  irq : t.irq = { stats := false, syncChg := false, cfgDone := false }
  irqEnable : t.irqEnable = 0
  shadow : t.shadow =
    { fsHz := 0, rsHz := 0, demodCfg := 0, nsym := 0, acqCfg := 0, statsCfg := 0, uwCfg := 0, uwLo := 0, uwHi := 0,
      frameGap := 0, ldpcNk := 0, ldpcAlg := 0x00000805#32, hLen := 0 }
  hAddr : t.hAddr = 0
  sampFifo : t.sampFifo = []
  pktFifo : t.pktFifo = []
  rdWord : t.rdWord = 0
  pkw : t.pkw = 0
  counters : t.cnt = ⟨0, 0, 0, 0, 0, 0, 0, 0, 0, 0, 0⟩
  lastDecode : t.lastDecode = ⟨0, false, false, false⟩
  lastUw : t.lastUw = ⟨0, false⟩
  stats : t.stats = ⟨0, 0, 0, 0, 0, 0, 0, 0, 0, 0, 0⟩
  snapNf : t.snapNf = 0
  tone0 : t.demod.b0.f = 0 ∧ t.demod.b0.phi = 0 ∧ ∀ z ∈ t.demod.b0.yhist, z = Cplx.zero
  tone1 : t.demod.b1.f = 0 ∧ t.demod.b1.phi = 0 ∧ ∀ z ∈ t.demod.b1.yhist, z = Cplx.zero
  estimates : t.demod.fValid = false ∧ t.demod.ptim = 0 ∧ t.demod.lowSig = false ∧ t.demod.bss = 0
  framer : t.framer = framerAtInit t.framer.cwBuf

/-- Check `k` of R906 fails for the configuration `c`, built with the parameters `p`, over the entries `es`. -/
def CheckFails (p : Params) (c : CfgRegs) (es : List Word) : Nat → Prop
  | 1 => c.os % 2 = 1 ∨ c.os < 4 ∨ p.osMax < c.os
  | 2 => c.tones ≠ 2
  | 3 => 3 < c.fmt
  | 4 => c.rsHz = 0 ∨ c.fsHz.toNat ≠ c.rsHz.toNat * c.os
  | 5 => c.symbols < 2
  | 6 => c.log2Nf < 6 ∨ 10 < c.log2Nf
  | 7 => p.sampDepth < c.symbols * c.os ∨ c.symbols * c.os < 2 ^ c.log2Nf
  | 8 => c.acqHalf < 2 * c.toneGuard + 1 ∨ c.acqCenter - c.acqHalf < -((2 ^ c.log2Nf : Nat) : Int) / 2 ∨
      ((2 ^ c.log2Nf : Nat) : Int) / 2 - 1 < c.acqCenter + c.acqHalf
  | 9 => c.softGain = 0
  | 10 => c.luw < 8 ∨ 64 < c.luw
  | 11 => c.luw ≤ 2 * c.uwTol
  | 12 => c.lossThresh = 0
  | 13 => p.nMax < c.nCw ∨ c.kInfo < 24 ∨ c.kInfo % 8 ≠ 0 ∨ c.nCw ≤ c.kInfo
  | 14 => c.maxIt = 0 ∨ c.scale = 0 ∨ 8 < c.scale
  | 15 => c.hCount = 0 ∨ p.hMax < c.hCount
  | 16 => ∃ e ∈ es, e.extractLsb' 16 15 ≠ 0#15
  | 17 => ∃ e ∈ es, c.nCw ≤ entryVar e
  | 18 => ∀ e, es.getLast? = some e → entryEnd e = false
  | 19 => (es.filter entryEnd).length ≠ c.nCw - c.kInfo
  | 20 => ∃ r ∈ graphRows es, r.length < 2 ∨ p.dcMax < r.length
  | 21 => ∃ r ∈ graphRows es, ¬ r.Nodup
  | 22 => ∃ v, p.dvMax < (es.filter fun e => entryVar e == v).length
  | 23 => p.pktDepth < 1 + c.symbols / c.nCw
  | _ => False

end Sys2Proof.Machine
end

