-- ==== Sys2Proof/WellFormed.lean ====
section
/-! DEFINITION. WellFormed: the one relation between an instruction's fields that its types do not already enforce. -/

namespace Sys2Proof

/-- An instruction is well formed iff it stands for its own row: CMD_ILLEGAL carries only a word that is not legal, that is
RSV ≠ 0 or OP > 0x07 (R301, R302). Every other operand is bounded by its type. -/
def Instr.wf : Instr → Bool
  | .cmdIllegal w => decide (w.extractLsb' 8 24 ≠ 0#24 ∨ 0x07#8 < w.extractLsb' 0 8)
  | _ => true

end Sys2Proof
end

