-- ==== Sys2Proof/Certificates/Slice0/Obligations.lean ====
section
/-! DEFINITION. The statements for the provers, in the order of OBLIGATIONS.json. Each docstring names the rule of spec/ that a
statement formalises. -/

open Sys2Proof Sys2Proof.Machine

/-! ## Encoding and the step -/

/-- Decoding what the encoder writes for a well-formed instruction gives the instruction back, with every operand at every
value its encoding admits (R300, R301, R400). -/
def Obligations.DecodeOfEncodeIsIdentity : Prop := ∀ i : Instr, i.wf = true → decode (encode i) = .ok i

/-- Encoding what the decoder reads from a host operation gives the operation back, up to the wdata of a read, which no read
uses (R204); so no two operations that differ in a bit the core looks at share an instruction. -/
def Obligations.EncodeOfDecodeIsIdentity : Prop :=
  ∀ (op : HostOp) (i : Instr), decode op = .ok i →
    i.wf = true ∧
      encode i = match op with
        | .cmd w => .cmd w
        | .bus r => busAccess r.off r.access

/-- Words written out from R301 and from the offsets of R102, with WR in bit 13 (R300). -/
def Obligations.TableWordsDecode : Prop :=
  decodeTableWord 32 0x00000002 = some .configure ∧ decodeTableWord 32 0x00000100 = some (.cmdIllegal 0x00000100#32) ∧
    decodeTableWord 16 0b00000000000000 = some .rdId ∧ decodeTableWord 16 0b10000000010000 = some (.wrErr 0) ∧
    decodeTableWord 16 0b10000000101000 = some (.wrDemodCfg 0) ∧ decodeTableWord 16 0b10000001100000 = some (.wrSampleData 0) ∧
    decodeTableWord 16 0b00000001110100 = some .rdPktData ∧ decodeTableWord 16 0b00000010101100 = some .rdLastDecode ∧
    decodeTableWord 16 0b01111111111100 = some (.rdSpec 0x3FF#10) ∧
    decodeTableWord 16 0b00000001011100 = some (.reserved05C .read) ∧
    decodeTableWord 16 0b10000000001010 = some (.misaligned2 2#11 (.write 0))

/-- A step whose turn is a host operation that decodes to an instruction runs exactly that instruction, on the state with the
turn taken from the script. The other turns are the model's own (R210; logs 1, 2, 3, 15): an engine turn, the power-on reset,
and the empty script, with which the engine alone moves. -/
def Obligations.StepRunsDecodedInstruction : Prop :=
  (∀ (s : State) (op : HostOp) (rest : List Turn) (i : Instr),
    s.script = .host op :: rest → decode op = .ok i → step s = exec i { s with script := rest }) ∧
  ∀ (s : State) (rest : List Turn),
    (s.script = .engine :: rest → step s = .next (State.engineTurn { s with script := rest })) ∧
      (s.script = .powerOn :: rest → step s = .next (State.powerOnReset { s with script := rest })) ∧
      (s.script = [] → step s = .next s.engineTurn)

/-- Nothing stops the core (R950, R902): every step has a next state, every instruction gives one with an answer on the host
port, and every step takes one turn from the script and keeps the build-time parameters (R8; logs 1, 8). -/
def Obligations.NothingStopsTheCore : Prop :=
  (∀ s : State, ∃ t, step s = .next t ∧ t.par = s.par ∧ t.script = s.script.tail) ∧
    ∀ (i : Instr) (s : State), ∃ t r, exec i s = .next t ∧ t.reply = some r

/-! ## Bus errors -/

/-- R900: a request with another size, a misaligned offset or a reserved offset ends in the bus error and has no other effect,
and every other request is answered with OKAY and does not raise ERR.BUS. The fifteen reserved and misaligned rows, for reads
and writes and with their free offset bits at every value, are such accesses. -/
def Obligations.BusErrorExactlyOnIllegalRequests : Prop :=
  (∀ (r : Request) (s : State),
    (¬ LegalRequest r → runHost (.bus r) s = .next { s with err := s.err ||| 0x100#9, reply := errorReply r.kind }) ∧
      (LegalRequest r →
        ∃ t v, runHost (.bus r) s = .next t ∧ t.reply = some { resp := .okay, rdata := v } ∧ ¬ ErrRaised s t 8)) ∧
  EndsInBusError .reserved05C ∧ EndsInBusError .reserved06C ∧ EndsInBusError .reserved07C ∧ EndsInBusError .reserved0B4 ∧
    EndsInBusError .reserved0B8 ∧ EndsInBusError .reserved0BC ∧ EndsInBusError .reserved0EC ∧
    (∀ j, EndsInBusError (.reserved0F0 j)) ∧ (∀ j, EndsInBusError (.reserved100 j)) ∧
    (∀ j, EndsInBusError (.reserved200 j)) ∧ (∀ j, EndsInBusError (.reserved400 j)) ∧
    (∀ j, EndsInBusError (.reserved800 j)) ∧ (∀ h, EndsInBusError (.misaligned1 h)) ∧
    (∀ h, EndsInBusError (.misaligned2 h)) ∧ ∀ h, EndsInBusError (.misaligned3 h)

/-! ## Registers -/

/-- R401, R402 and R403: a write of any value to any read-only register is answered with OKAY and changes nothing; the two
write-only registers read 0, ID and VERSION their constants. -/
def Obligations.ConstantsAndIgnoredWrites : Prop :=
  (ReadsAs .rdId (fun _ => 0x57525843#32) ∧ ReadsAs .rdVersion (fun _ => 0x00010000#32) ∧
    ReadsAs .rdCmd (fun _ => 0#32) ∧ ReadsAs .rdSampleData (fun _ => 0#32)) ∧
    (∀ w, WritesAs (.wrId w) id ∧ WritesAs (.wrVersion w) id ∧ WritesAs (.wrStatus w) id ∧ WritesAs (.wrCfgErr w) id ∧
      WritesAs (.wrSampCount w) id ∧ WritesAs (.wrSampFree w) id ∧ WritesAs (.wrPktCount w) id ∧
      WritesAs (.wrPktData w) id ∧ WritesAs (.wrPktWords w) id) ∧
    (∀ w, WritesAs (.wrCntBlocks w) id ∧ WritesAs (.wrCntBits w) id ∧ WritesAs (.wrCntSyncAcq w) id ∧
      WritesAs (.wrCntSyncLoss w) id ∧ WritesAs (.wrCntUwMiss w) id ∧ WritesAs (.wrCntFrames w) id ∧
      WritesAs (.wrCntFecFail w) id ∧ WritesAs (.wrCntCrcFail w) id ∧ WritesAs (.wrCntPktOk w) id ∧
      WritesAs (.wrCntLowSignal w) id ∧ WritesAs (.wrCntSampDrop w) id ∧ WritesAs (.wrLastDecode w) id ∧
      WritesAs (.wrLastUw w) id) ∧
    (∀ w, WritesAs (.wrStSeq w) id ∧ WritesAs (.wrStF0 w) id ∧ WritesAs (.wrStF1 w) id ∧ WritesAs (.wrStTiming w) id ∧
      WritesAs (.wrStNout w) id ∧ WritesAs (.wrStSig w) id ∧ WritesAs (.wrStNoise w) id ∧ WritesAs (.wrStEavg w) id ∧
      WritesAs (.wrStFlags w) id ∧ WritesAs (.wrStPeaks w) id ∧ WritesAs (.wrStBlock w) id) ∧
    ∀ k w, WritesAs (.wrSpec k w) id

/-- R405: STATUS is composed of the state as it is at the read, field by field as R110 has them. -/
def Obligations.StatusReadComposesState : Prop :=
  ∀ s : State, ∃ v : Word, exec .rdStatus s = .next { s with reply := okRead v } ∧
    v.extractLsb' 0 2 = (match s.mode with | .idle => 0#2 | .ready _ => 1#2 | .run _ => 2#2 | .cfgError => 3#2) ∧
    (v.getLsbD 2 = true ↔ s.framer.fstate = .synchronized) ∧ v.getLsbD 3 = s.demod.fValid ∧ v.getLsbD 4 = s.demod.lowSig ∧
    (v.getLsbD 5 = true ↔ ∃ c, s.mode = .run c ∧ c.symbols * c.os ≤ s.sampFifo.length ∧
      s.par.pktDepth - s.pktFifo.length < 1 + c.symbols / c.nCw) ∧
    (v.getLsbD 6 = true ↔ ∃ c, s.mode = .run c ∧ s.sampFifo.length < c.symbols * c.os) ∧ v.extractLsb' 7 25 = 0#25

/-- R406, R407 and R408: ERR and CFG_ERR read without side effect, and a write to ERR clears the flags written as 1, keeps
the others and ignores wdata[31:9]; the ERROR level of IRQ_STATUS follows ERR ≠ 0 in every state. -/
def Obligations.ErrReadsAndClears : Prop :=
  ReadsAs .rdErr (fun s => 0#23 ++ s.err) ∧ ReadsAs .rdCfgErr (fun s => 0#24 ++ s.cfgErr) ∧
    (∀ w : Word, WritesAs (.wrErr w) fun s => { s with err := s.err &&& ~~~ w.extractLsb' 0 9 }) ∧
    ∀ s : State, s.irqStatus.getLsbD 3 = decide (s.err ≠ 0)

/-- R409, R410, R414 and R910: IRQ_STATUS reads its two levels and three sticky bits; a write clears the sticky bits written as
1, and nothing else; IRQ_ENABLE is read and written; the interrupt output is the OR over b of IRQ_STATUS[b] AND
IRQ_ENABLE[b], in every state. -/
def Obligations.InterruptRegistersAndOutput : Prop :=
  (∀ s : State, ∃ v : Word, exec .rdIrqStatus s = .next { s with reply := okRead v } ∧
    v.getLsbD 0 = decide (0 < s.pktFifo.length) ∧ v.getLsbD 1 = s.irq.stats ∧ v.getLsbD 2 = s.irq.syncChg ∧
    v.getLsbD 3 = decide (s.err ≠ 0) ∧ v.getLsbD 4 = s.irq.cfgDone ∧ v.extractLsb' 5 27 = 0#27) ∧
  (∀ w : Word, WritesAs (.wrIrqStatus w) fun s =>
    { s with
      irq :=
        { stats := if w.getLsbD 1 then false else s.irq.stats
          syncChg := if w.getLsbD 2 then false else s.irq.syncChg
          cfgDone := if w.getLsbD 4 then false else s.irq.cfgDone } }) ∧
  ReadsAs .rdIrqEnable (fun s => 0#27 ++ s.irqEnable) ∧
  (∀ w : Word, WritesAs (.wrIrqEnable w) fun s => { s with irqEnable := w.extractLsb' 0 5 }) ∧
  ∀ s : State, s.irqOutput = true ↔ ∃ b, b < 5 ∧ s.irqStatus.getLsbD b = true ∧ s.irqEnable.getLsbD b = true

/-- R440 to R446: the shadow registers FS_HZ to UW_CFG with their write masks; and each field of DEMOD_CFG, NSYM, ACQ_CFG,
STATS_CFG and UW_CFG is the slice of its register that R116 to R118 give, unsigned but for ACQ_CENTER, which is sext_16 (R310). -/
def Obligations.DemodShadowRegisters : Prop :=
  ShadowRegister .rdFsHz .wrFsHz (·.fsHz) (fun c w => { c with fsHz := w }) 0xFFFFFFFF#32 ∧
    ShadowRegister .rdRsHz .wrRsHz (·.rsHz) (fun c w => { c with rsHz := w }) 0xFFFFFFFF#32 ∧
    ShadowRegister .rdDemodCfg .wrDemodCfg (·.demodCfg) (fun c w => { c with demodCfg := w }) 0xFFFFF7FF#32 ∧
    ShadowRegister .rdNsym .wrNsym (·.nsym) (fun c w => { c with nsym := w }) 0x0000FFFF#32 ∧
    ShadowRegister .rdAcqCfg .wrAcqCfg (·.acqCfg) (fun c w => { c with acqCfg := w }) 0xFFFFFFFF#32 ∧
    ShadowRegister .rdStatsCfg .wrStatsCfg (·.statsCfg) (fun c w => { c with statsCfg := w }) 0xFFFFFFFF#32 ∧
    ShadowRegister .rdUwCfg .wrUwCfg (·.uwCfg) (fun c w => { c with uwCfg := w }) 0x00FF7F7F#32 ∧
    ∀ c : CfgRegs,
      (c.os = c.demodCfg.toNat % 2 ^ 8 ∧ c.fmt = c.demodCfg.toNat / 2 ^ 8 % 2 ^ 3 ∧
        c.tones = c.demodCfg.toNat / 2 ^ 12 % 2 ^ 4 ∧ c.log2Nf = c.demodCfg.toNat / 2 ^ 16 % 2 ^ 4 ∧
        c.smoothShift = c.demodCfg.toNat / 2 ^ 20 % 2 ^ 4 ∧ c.softGain = c.demodCfg.toNat / 2 ^ 24 ∧
        c.symbols = c.nsym.toNat % 2 ^ 16) ∧
      (let low : Nat := c.acqCfg.toNat % 2 ^ 16
       c.acqCenter = (low : Int) - (if low < 2 ^ 15 then 0 else 2 ^ 16) ∧ c.acqHalf = c.acqCfg.toNat / 2 ^ 16 % 2 ^ 12 ∧
          c.toneGuard = c.acqCfg.toNat / 2 ^ 28) ∧
      c.snrFloor = c.statsCfg.toNat % 2 ^ 16 ∧ c.statsDiv = c.statsCfg.toNat / 2 ^ 16 ∧
      c.luw = c.uwCfg.toNat % 2 ^ 7 ∧ c.uwTol = c.uwCfg.toNat / 2 ^ 8 % 2 ^ 7 ∧
      c.lossThresh = c.uwCfg.toNat / 2 ^ 16 % 2 ^ 8

/-- R447 to R452: the shadow registers UW_LO to H_LEN with their write masks; the unique word is UW_HI above UW_LO, each field
of FRAME_GAP, LDPC_NK, LDPC_ALG and H_LEN is the slice of its register that R118 and R119 give, and the quantities derived from
the fields are those of R120. -/
def Obligations.FramerAndDecoderShadowRegisters : Prop :=
  ShadowRegister .rdUwLo .wrUwLo (·.uwLo) (fun c w => { c with uwLo := w }) 0xFFFFFFFF#32 ∧
    ShadowRegister .rdUwHi .wrUwHi (·.uwHi) (fun c w => { c with uwHi := w }) 0xFFFFFFFF#32 ∧
    ShadowRegister .rdFrameGap .wrFrameGap (·.frameGap) (fun c w => { c with frameGap := w }) 0x0000FFFF#32 ∧
    ShadowRegister .rdLdpcNk .wrLdpcNk (·.ldpcNk) (fun c w => { c with ldpcNk := w }) 0xFFFFFFFF#32 ∧
    ShadowRegister .rdLdpcAlg .wrLdpcAlg (·.ldpcAlg) (fun c w => { c with ldpcAlg := w }) 0x007F0FFF#32 ∧
    ShadowRegister .rdHLen .wrHLen (·.hLen) (fun c w => { c with hLen := w }) 0x0001FFFF#32 ∧
    ∀ c : CfgRegs,
      (c.uniqueWord.toNat = c.uwHi.toNat * 2 ^ 32 + c.uwLo.toNat ∧ c.gapBits = c.frameGap.toNat % 2 ^ 16) ∧
      (c.nCw = c.ldpcNk.toNat % 2 ^ 16 ∧ c.kInfo = c.ldpcNk.toNat / 2 ^ 16) ∧
      (c.maxIt = c.ldpcAlg.toNat % 2 ^ 8 ∧ c.scale = c.ldpcAlg.toNat / 2 ^ 8 % 2 ^ 4 ∧
        c.offset = c.ldpcAlg.toNat / 2 ^ 16 % 2 ^ 7) ∧
      c.hCount = c.hLen.toNat % 2 ^ 17 ∧
      (c.blockLen = c.symbols * c.os ∧ c.nf = 2 ^ c.log2Nf ∧ c.pktBytes = c.kInfo / 8 ∧ c.pMax = 1 + c.symbols / c.nCw)

/-- R460 to R470: the eleven counters read without side effect. -/
def Obligations.CounterReads : Prop :=
  ReadsAs .rdCntBlocks (·.cnt.blocks) ∧ ReadsAs .rdCntBits (·.cnt.bits) ∧ ReadsAs .rdCntSyncAcq (·.cnt.syncAcq) ∧
    ReadsAs .rdCntSyncLoss (·.cnt.syncLoss) ∧ ReadsAs .rdCntUwMiss (·.cnt.uwMiss) ∧
    ReadsAs .rdCntFrames (·.cnt.frames) ∧ ReadsAs .rdCntFecFail (·.cnt.fecFail) ∧
    ReadsAs .rdCntCrcFail (·.cnt.crcFail) ∧ ReadsAs .rdCntPktOk (·.cnt.pktOk) ∧
    ReadsAs .rdCntLowSignal (·.cnt.lowSignal) ∧ ReadsAs .rdCntSampDrop (·.cnt.sampDrop)

/-- R471, R472 and R141: LAST_DECODE and LAST_UW read as their fields. -/
def Obligations.LastDecodeAndLastUwReads : Prop :=
  (∀ s : State, ∃ v : Word, exec .rdLastDecode s = .next { s with reply := okRead v } ∧
    v.extractLsb' 0 8 = s.lastDecode.iters ∧ v.getLsbD 8 = s.lastDecode.parityOk ∧ v.getLsbD 9 = s.lastDecode.crcOk ∧
    v.getLsbD 10 = s.lastDecode.valid ∧ v.extractLsb' 11 21 = 0#21) ∧
  ∀ s : State, ∃ v : Word, exec .rdLastUw s = .next { s with reply := okRead v } ∧
    v.extractLsb' 0 7 = s.lastUw.dist ∧ v.getLsbD 7 = s.lastUw.valid ∧ v.extractLsb' 8 24 = 0#24

/-- R480 to R491: the statistics registers and the SPEC window read the latest snapshot without side effect. -/
def Obligations.StatisticsReads : Prop :=
  ReadsAs .rdStSeq (·.stats.seq) ∧ ReadsAs .rdStF0 (·.stats.f0) ∧ ReadsAs .rdStF1 (·.stats.f1) ∧
    ReadsAs .rdStTiming (fun s => 0#24 ++ s.stats.timing) ∧ ReadsAs .rdStNout (·.stats.nout) ∧
    ReadsAs .rdStSig (·.stats.sig) ∧ ReadsAs .rdStNoise (·.stats.noise) ∧ ReadsAs .rdStEavg (·.stats.eavg) ∧
    ReadsAs .rdStFlags (fun s => 0#29 ++ s.stats.flags) ∧ ReadsAs .rdStPeaks (·.stats.peaks) ∧
    ReadsAs .rdStBlock (·.stats.block) ∧
    ∀ k : BitVec 10, ReadsAs (.rdSpec k) fun s =>
      if s.stats.flags.getLsbD 2 = true ∧ k.toNat < s.snapNf then s.specMem.getD k.toNat 0 else 0

/-! ## Ports -/

/-- R411: an H_DATA write is refused in RUN, then refused at H_ADDR ≥ P_H_MAX, and otherwise stores all 32 bits at H_ADDR and
nowhere else, moves H_ADDR on mod 2^16 and leaves READY for IDLE. -/
def Obligations.HDataWriteStoresOneEntry : Prop :=
  ∀ (w : Word) (s : State),
    (∀ c, s.mode = .run c → exec (.wrHData w) s = .next { s with err := s.err ||| 0x040#9, reply := okWrite }) ∧
    ((∀ c, s.mode ≠ .run c) → s.par.hMax ≤ s.hAddr.toNat →
      exec (.wrHData w) s = .next { s with err := s.err ||| 0x080#9, reply := okWrite }) ∧
    ((∀ c, s.mode ≠ .run c) → s.hAddr.toNat < s.par.hMax →
      ∃ m : Memory,
        exec (.wrHData w) s =
          .next { s with
            hmem := m
            hAddr := BitVec.ofNat 16 ((s.hAddr.toNat + 1) % 2 ^ 16)
            mode := (match s.mode with | .ready _ => .idle | other => other)
            reply := okWrite } ∧
        State.hRead { s with hmem := m } s.hAddr.toNat = w ∧
        ∀ a, a ≠ s.hAddr.toNat → State.hRead { s with hmem := m } a = s.hRead a)

/-- R412 and R413: H_ADDR is read and written in every STATE, 16 bits, with no check against P_H_MAX; an H_DATA read returns the
entry at H_ADDR, which does not move, or records H_RANGE and returns 0; an entry that is not written holds its power-on draw,
whatever that is (R130). -/
def Obligations.HAddrAndHDataReads : Prop :=
  ReadsAs .rdHAddr (fun s => 0#16 ++ s.hAddr) ∧
  (∀ w : Word, WritesAs (.wrHAddr w) fun s => { s with hAddr := w.extractLsb' 0 16 }) ∧
  ∀ s : State,
    (s.par.hMax ≤ s.hAddr.toNat → exec .rdHData s = .next { s with err := s.err ||| 0x080#9, reply := okRead 0 }) ∧
    (s.hAddr.toNat < s.par.hMax → exec .rdHData s = .next { s with reply := okRead (s.hRead s.hAddr.toNat) }) ∧
    ∀ a, (∀ e ∈ s.hmem, e.1 ≠ a) → s.hRead a = Config.hMemDraw s.powerOns a

/-- R420: a SAMPLE_DATA write is refused in IDLE and CFG_ERROR, dropped whole and counted when there is no room, and otherwise
pushes the word's samples in order. -/
def Obligations.SampleWriteIsWholeOrDropped : Prop :=
  ∀ (w : Word) (s : State),
    (s.mode = .idle ∨ s.mode = .cfgError →
      exec (.wrSampleData w) s = .next { s with err := s.err ||| 0x010#9, reply := okWrite }) ∧
    ∀ c, s.mode = .ready c ∨ s.mode = .run c →
      (s.par.sampDepth - s.sampFifo.length < samplesPerWord c.fmt →
        exec (.wrSampleData w) s =
          .next { s with
            err := s.err ||| 0x008#9
            cnt := { s.cnt with sampDrop := s.cnt.sampDrop + BitVec.ofNat 32 (samplesPerWord c.fmt) }
            reply := okWrite }) ∧
      (samplesPerWord c.fmt ≤ s.par.sampDepth - s.sampFifo.length →
        exec (.wrSampleData w) s =
          .next { s with sampFifo := s.sampFifo ++ convertSamples c.fmt w, reply := okWrite })

/-- R320, R321 and R340: the four sample formats as integers, in stream order, and how many samples a word carries; word j of a
packet is the sum of byte(4j + i) times 2^(8i), bytes past the end being 0, and a packet of P = K/8 bytes has ceil(P/4) words. -/
def Obligations.SampleAndPacketWordFormats : Prop :=
  (∀ w : Word,
    let b (i : Nat) : Int := ((w.toNat / 256 ^ i % 256 : Nat) : Int)
    let lo : Int := (w.extractLsb' 0 16).toInt
    let hi : Int := (w.extractLsb' 16 16).toInt
    (convertSamples 0 w).map Sample.toCplx = [⟨lo, hi⟩] ∧
    (convertSamples 1 w).map Sample.toCplx =
      [⟨(b 0 - 128) * 256, (b 1 - 128) * 256⟩, ⟨(b 2 - 128) * 256, (b 3 - 128) * 256⟩] ∧
    (convertSamples 2 w).map Sample.toCplx = [⟨lo, 0⟩, ⟨hi, 0⟩] ∧
    (convertSamples 3 w).map Sample.toCplx =
      [⟨(b 0 - 128) * 256, 0⟩, ⟨(b 1 - 128) * 256, 0⟩, ⟨(b 2 - 128) * 256, 0⟩, ⟨(b 3 - 128) * 256, 0⟩]) ∧
  (samplesPerWord 0 = 1 ∧ samplesPerWord 1 = 2 ∧ samplesPerWord 2 = 2 ∧ samplesPerWord 3 = 4) ∧
  (∀ (pkt : List Byte) (j : Nat),
    (packetWord pkt j).toNat =
      ((List.range 4).map fun i =>
        (if h : 4 * j + i < pkt.length then (pkt[4 * j + i]).toNat else 0) * 2 ^ (8 * i)).sum) ∧
  ∀ c : CfgRegs, c.kInfo % 8 = 0 → c.pktBytes = c.kInfo / 8 ∧ c.pktWords = (c.pktBytes + 3) / 4

/-- R421, R422, R430, R431 and R432: the FIFO counts and PKW read without side effect; a PKT_DATA read returns word RD_WORD of
the oldest packet, which leaves PKT_FIFO after its PKW-th word, or records PKT_UNDERFLOW and returns 0. -/
def Obligations.FifoPortReads : Prop :=
  (ReadsAs .rdSampCount (fun s => BitVec.ofNat 32 s.sampFifo.length) ∧
    ReadsAs .rdSampFree (fun s => BitVec.ofNat 32 (s.par.sampDepth - s.sampFifo.length)) ∧
    ReadsAs .rdPktCount (fun s => BitVec.ofNat 32 s.pktFifo.length) ∧
    ReadsAs .rdPktWords (fun s => BitVec.ofNat 32 s.pkw)) ∧
  ∀ s : State,
    (s.pktFifo = [] → exec .rdPktData s = .next { s with err := s.err ||| 0x020#9, reply := okRead 0 }) ∧
    ∀ pkt rest, s.pktFifo = pkt :: rest →
      (s.rdWord + 1 ≠ s.pkw →
        exec .rdPktData s = .next { s with rdWord := s.rdWord + 1, reply := okRead (packetWord pkt s.rdWord) }) ∧
      (s.rdWord + 1 = s.pkw →
        exec .rdPktData s =
          .next { s with pktFifo := rest, rdWord := 0, reply := okRead (packetWord pkt s.rdWord) })

/-! ## Commands -/

/-- R500: a write of an illegal word to CMD sets ERR.CMD_ILLEGAL and does nothing else; a write of any word completes as the CMD
row the word decodes to, and CMD_ILLEGAL is that row for exactly the illegal words. -/
def Obligations.CmdWriteExecutesTheCommand : Prop :=
  (∀ (w : Word) (s : State), ∃ t, exec (.wrCmd w) s = .next t ∧ exec (decodeCmdWord w) s = .next t ∧ t.reply = okWrite) ∧
    (∀ w : Word, decodeCmdWord w = .cmdIllegal w ↔ (w.extractLsb' 8 24 ≠ 0#24 ∨ 0x07#8 < w.extractLsb' 0 8)) ∧
    (∀ w : Word, WritesAs (.cmdIllegal w) fun s => { s with err := s.err ||| 0x001#9 }) ∧
    decodeCmdWord 0 = .nop ∧ decodeCmdWord 1 = .softReset ∧ decodeCmdWord 2 = .configure ∧ decodeCmdWord 3 = .start ∧
    decodeCmdWord 4 = .stop ∧ decodeCmdWord 5 = .resync ∧ decodeCmdWord 6 = .clearCounters ∧
    decodeCmdWord 7 = .flushPackets

/-- R501, the refusals: each command in each STATE the table marks "no" sets ERR.CMD_STATE and does nothing else. -/
def Obligations.CommandsRefusedByState : Prop :=
  ∀ s : State,
    let refused (i : Instr) : Prop := exec i s = .next { s with err := s.err ||| 0x002#9, reply := okWrite }
    (s.mode = .idle ∨ s.mode = .cfgError → refused .start ∧ refused .stop ∧ refused .resync) ∧
      (∀ c, s.mode = .ready c → refused .stop) ∧ ∀ c, s.mode = .run c → refused .configure ∧ refused .start

/-- R510, R520, R521, R530, R540 and R541: NOP changes nothing; START in READY and STOP in RUN set the demodulator to DEMOD_INIT
and the framer to FRAMER_INIT and change STATE, and STOP also discards the waiting samples; RESYNC sets the framer to
FRAMER_INIT and nothing else; CLEAR_COUNTERS zeroes the registers from 0x080 to 0x0B0; FLUSH_PACKETS empties PKT_FIFO. -/
def Obligations.CommandsComplete : Prop :=
  WritesAs .nop id ∧
  (∀ (s : State) (c : CfgRegs), s.mode = .ready c → ∃ buf,
    exec .start s =
      .next { s with mode := .run c, demod := demodAtInit c.os, framer := framerAtInit buf, reply := okWrite }) ∧
  (∀ (s : State) (c : CfgRegs), s.mode = .run c → ∃ buf,
    exec .stop s =
      .next { s with
        mode := .ready c, sampFifo := [], demod := demodAtInit c.os, framer := framerAtInit buf, reply := okWrite }) ∧
  (∀ (s : State) (c : CfgRegs), s.mode = .ready c ∨ s.mode = .run c → ∃ buf,
    exec .resync s = .next { s with framer := framerAtInit buf, reply := okWrite }) ∧
  WritesAs .clearCounters (fun s =>
    { s with
      cnt := ⟨0, 0, 0, 0, 0, 0, 0, 0, 0, 0, 0⟩, lastDecode := ⟨0, false, false, false⟩, lastUw := ⟨0, false⟩ }) ∧
  WritesAs .flushPackets fun s => { s with pktFifo := [], rdWord := 0 }

/-- R511 and R1002: SOFT_RESET completes in every STATE, puts every piece of state at its reset value and keeps H_MEM. -/
def Obligations.SoftResetKeepsHMem : Prop :=
  ∀ s : State, ∃ t, exec .softReset s = .next t ∧ t.AtReset ∧ (∀ a, t.hRead a = s.hRead a) ∧ t.hmem = s.hmem ∧
    t.reply = okWrite ∧ t.par = s.par ∧ t.script = s.script

/-- R512: CONFIGURE is refused in RUN. Elsewhere it takes the shadow as the active configuration if Validate gives 0, and
otherwise reports the code; both flush the FIFOs and set CFG_DONE, and neither touches anything else. -/
def Obligations.ConfigurePassesOrReports : Prop :=
  (∀ (s : State) (c : CfgRegs), s.mode = .run c →
    exec .configure s = .next { s with err := s.err ||| 0x002#9, reply := okWrite }) ∧
  ∀ s : State, (∀ c, s.mode ≠ .run c) →
    (s.validate s.shadow = 0 → ∃ buf,
      exec .configure s =
        .next { s with
          mode := .ready s.shadow, sampFifo := [], pktFifo := [], rdWord := 0, irq := { s.irq with cfgDone := true }
          pkw := (s.shadow.kInfo + 31) / 32, demod := demodAtInit s.shadow.os, framer := framerAtInit buf
          stats := ⟨0, 0, 0, 0, 0, 0, 0, 0, 0, 0, 0⟩, snapNf := 0, cfgErr := 0, reply := okWrite }) ∧
    (s.validate s.shadow ≠ 0 →
      exec .configure s =
        .next { s with
          mode := .cfgError, sampFifo := [], pktFifo := [], rdWord := 0, irq := { s.irq with cfgDone := true }, pkw := 0
          cfgErr := BitVec.ofNat 8 (s.validate s.shadow), err := s.err ||| 0x004#9, reply := okWrite })

/-- R906: Validate gives the least k in 1..23 such that check k fails over the entries H_MEM[0 .. H_LEN-1], or 0 if none does. -/
def Obligations.ValidateIsLeastFailingCheck : Prop :=
  ∀ (s : State) (c : CfgRegs),
    let fails := CheckFails s.par c ((List.range c.hCount).map s.hRead)
    (s.validate c = 0 ∧ ∀ k, ¬ fails k) ∨
      (1 ≤ s.validate c ∧ s.validate c ≤ 23 ∧ fails (s.validate c) ∧ ∀ k, k < s.validate c → ¬ fails k)

/-- R330 and R800: the rows of the code graph are the runs of entries that end at an entry with END = 1, in entry order. Row m
holds the variables of exactly the entries before which m entries have END = 1; no entry of a row but its last has END = 1, and
where the last entry of all has END = 1 so has the last entry of every row, and there are as many rows as such entries. Put
together the rows are all the variables in order, and no row is empty. VAR is bits [15:0] of an entry, END bit 31. -/
def Obligations.GraphRowsAreEntryRuns : Prop :=
  (∀ e : Word, entryVar e = e.toNat % 2 ^ 16 ∧ (entryEnd e = true ↔ 2 ^ 31 ≤ e.toNat)) ∧
  ∀ es : List Word,
    let rowOf (i : Nat) : Nat := ((es.take i).filter entryEnd).length
    let run (m : Nat) : List Word := (es.zipIdx.filter fun (_, i) => rowOf i == m).map Prod.fst
    (∀ m, (graphRows es).getD m [] = (run m).map entryVar) ∧ (∀ m, ∀ e ∈ (run m).dropLast, entryEnd e = false) ∧
    (graphRows es).flatten = es.map entryVar ∧ (∀ r ∈ graphRows es, r ≠ []) ∧
      ((∀ e, es.getLast? = some e → entryEnd e = true) →
        (graphRows es).length = (es.filter entryEnd).length ∧
          ∀ m, m < (graphRows es).length → ∃ e, (run m).getLast? = some e ∧ entryEnd e = true)

/-! ## Reset -/

/-- R1001 and R1004: right after a power-on reset every register, FIFO and counter has its reset value, STATUS and IRQ_STATUS
are 0, the interrupt output is 0, SAMP_FREE is P_SAMP_DEPTH and the engine is not enabled. -/
def Obligations.ResetStateValues : Prop :=
  State.reset.AtReset ∧ State.reset.hmem = [] ∧ State.reset.status = 0 ∧ State.reset.irqStatus = 0 ∧
    State.reset.irqOutput = false ∧ State.reset.sampFree = State.reset.par.sampDepth ∧
    State.reset.engineEnabled = false ∧ State.reset.par = Params.default

/-- R1000 and R1001: the platform's power-on reset puts every piece of state at its reset value, and every entry of H_MEM holds
a new unspecified value; the power-on counter, the parameters and the script are the model's own (logs 1, 6, 8, 15). -/
def Obligations.PowerOnTurnResets : Prop :=
  ∀ (s : State) (rest : List Turn), s.script = .powerOn :: rest →
    ∃ t, step s = .next t ∧ t.AtReset ∧ t.powerOns = s.powerOns + 1 ∧
      (∀ a, t.hRead a = Config.hMemDraw (s.powerOns + 1) a) ∧ t.par = s.par ∧ t.script = rest ∧ t.reply = none

/-! ## Rules about every access -/

/-- R110, last paragraph: STATE changes only by a command (issued as one or as a CMD write) or by an H_DATA write, and the
engine never changes it. -/
def Obligations.OnlyCommandsAndHDataChangeState : Prop :=
  (∀ (i : Instr) (s t : State), exec i s = .next t → t.mode ≠ s.mode →
    i = .softReset ∨ i = .configure ∨ i = .start ∨ i = .stop ∨ (∃ w, i = .wrCmd w ∧ 1 ≤ w.toNat ∧ w.toNat ≤ 4) ∨
      ∃ w, i = .wrHData w) ∧
  ∀ s : State, s.engineTurn.mode = s.mode

/-- R903: an access sets at most one ERR bit. -/
def Obligations.OneErrBitPerAccess : Prop :=
  ∀ (op : HostOp) (s t : State), runHost op s = .next t → ∀ j k, ErrRaised s t j → ErrRaised s t k → j = k

/-- R205: a read has a side effect only at PKT_DATA and at H_DATA with H_ADDR ≥ P_H_MAX: every other legal read leaves the
whole state but the answer as it was. -/
def Obligations.ReadsHaveNoSideEffect : Prop :=
  ∀ (r : Request) (s t : State), r.kind = .read → LegalRequest r → r.off.toNat ≠ 0x074 →
    (r.off.toNat = 0x058 → s.hAddr.toNat < s.par.hMax) → runHost (.bus r) s = .next t → t = { s with reply := t.reply }

/-! ## The engine -/

/-- R601: a block step is enabled iff STATE = RUN, count(SAMP_FIFO) ≥ N and free(PKT_FIFO) ≥ Pmax; without it the engine's turn
changes nothing, with it the turn is the block step. -/
def Obligations.EngineStepsExactlyWhenEnabled : Prop :=
  ∀ s : State,
    (s.engineEnabled = true ↔ ∃ c, s.mode = .run c ∧ c.symbols * c.os ≤ s.sampFifo.length ∧
      1 + c.symbols / c.nCw ≤ s.par.pktDepth - s.pktFifo.length) ∧
    (s.engineEnabled = false → s.engineTurn = s) ∧
    ∀ c, s.mode = .run c → s.engineEnabled = true → s.engineTurn = s.engineStep c

/-- R600, R602, R120 and R215: a block step consumes exactly the N oldest samples and leaves everything but the engine's own
state, the packets it appends, the counters and the statistics as it was, H_MEM and STATE among it; and it does not see the
shadow configuration. Its parts are composed as R600 has them: the tones of the block's bin powers, g from the lower and the
upper tone (R630), the estimates moved by g and used by this block's mixer (R631, R632), the matched filter, the timing phase,
the instants and the soft bits (R640 to R645), which go to the framer in order (R652) before the end of the block; the
demodulator is left with the new f, phi, YHIST, LAST, PTIM and LOWSIG (R646) and BSS one higher. -/
def Obligations.EngineStepFrame : Prop :=
  ∀ (s : State) (c : CfgRegs),
    let n := c.symbols * c.os
    let t := s.engineStep c
    (t.sampFifo = s.sampFifo.drop n ∧ (∃ pushed, t.pktFifo = s.pktFifo ++ pushed) ∧
      t = { s with
        sampFifo := t.sampFifo, pktFifo := t.pktFifo, irq := t.irq, cnt := t.cnt, lastDecode := t.lastDecode
        lastUw := t.lastUw, stats := t.stats, specMem := t.specMem, snapNf := t.snapNf, demod := t.demod
        framer := t.framer } ∧
      t.irq.cfgDone = s.irq.cfgDone ∧ t.cnt.sampDrop = s.cnt.sampDrop ∧
      ∀ sh, State.engineStep { s with shadow := sh } c = { t with shadow := sh }) ∧
    let x : List Cplx := (s.sampFifo.take n).map Sample.toCplx
    let powers := binPowers c x
    let tones := toneSearch c powers
    let f0 := smooth c s.demod.fValid s.demod.b0.f (min tones.k1 tones.k2 * 2 ^ (32 - c.log2Nf))
    let f1 := smooth c s.demod.fValid s.demod.b1.f (max tones.k1 tones.k2 * 2 ^ (32 - c.log2Nf))
    let y0 := mixBlock f0 s.demod.b0.phi x
    let y1 := mixBlock f1 s.demod.b1.phi x
    let a0 := matchedFilter c s.demod.b0.yhist y0
    let a1 := matchedFilter c s.demod.b1.yhist y1
    let p := timingPhase c a0 a1
    let cs := symbolInstants c s.demod.last p
    let soft := softBits c a0 a1 cs
    let d : Demod :=
      { b0 := { f := f0, phi := s.demod.b0.phi + BitVec.ofNat 32 n * f0, yhist := y0.drop (n - 2 * c.os) }
        b1 := { f := f1, phi := s.demod.b1.phi + BitVec.ofNat 32 n * f1, yhist := y1.drop (n - 2 * c.os) }
        fValid := true, last := lastAfter c s.demod.last cs, ptim := p, lowSig := tones.low, bss := s.demod.bss }
    t = State.endBlock
        (soft.foldl (fun u v => u.framerBit c v) { s with sampFifo := s.sampFifo.drop n, demod := d }) c
        { soft := soft, powers := powers, tones := tones, pstar := p
          total := (cs.map fun i => energyAt c a0 i + energyAt c a1 i).sum } ∧
      t.demod = { d with bss := s.demod.bss + 1 }

/-- R610, R611 and R612: QTAB is the normative table, row by row; SIN reads it by the four quadrants of the index mod 1024, and
COS is SIN a quarter turn on; w[n] is (32768 - COS(n·(1024/Nf))) >> 1. So SIN has period 1024 and is odd, both lie in
[-32767, 32767], and the window lies in [0, 32767] with w[0] = 0 and w[Nf/2] = 32767. -/
def Obligations.SineAndWindowRanges : Prop :=
  (let row (r : Nat) : List Int := (List.range 16).map fun k => qtab (16 * r + k)
   row 0 =
     [0, 201, 402, 603, 804, 1005, 1206, 1407, 1608, 1809, 2009, 2210, 2410, 2611, 2811, 3012] ∧
   row 1 =
     [3212, 3412, 3612, 3811, 4011, 4210, 4410, 4609, 4808, 5007, 5205, 5404, 5602, 5800, 5998, 6195] ∧
   row 2 =
     [6393, 6590, 6786, 6983, 7179, 7375, 7571, 7767, 7962, 8157, 8351, 8545, 8739, 8933, 9126, 9319] ∧
   row 3 =
     [9512, 9704, 9896, 10087, 10278, 10469, 10659, 10849, 11039, 11228, 11417, 11605, 11793, 11980, 12167, 12353] ∧
   row 4 =
     [12539, 12725, 12910, 13094, 13279, 13462, 13645, 13828, 14010, 14191, 14372, 14553, 14732, 14912, 15090, 15269] ∧
   row 5 =
     [15446, 15623, 15800, 15976, 16151, 16325, 16499, 16673, 16846, 17018, 17189, 17360, 17530, 17700, 17869, 18037] ∧
   row 6 =
     [18204, 18371, 18537, 18703, 18868, 19032, 19195, 19357, 19519, 19680, 19841, 20000, 20159, 20317, 20475, 20631] ∧
   row 7 =
     [20787, 20942, 21096, 21250, 21403, 21554, 21705, 21856, 22005, 22154, 22301, 22448, 22594, 22739, 22884, 23027] ∧
   row 8 =
     [23170, 23311, 23452, 23592, 23731, 23870, 24007, 24143, 24279, 24413, 24547, 24680, 24811, 24942, 25072, 25201] ∧
   row 9 =
     [25329, 25456, 25582, 25708, 25832, 25955, 26077, 26198, 26319, 26438, 26556, 26674, 26790, 26905, 27019, 27133] ∧
   row 10 =
     [27245, 27356, 27466, 27575, 27683, 27790, 27896, 28001, 28105, 28208, 28310, 28411, 28510, 28609, 28706, 28803] ∧
   row 11 =
     [28898, 28992, 29085, 29177, 29268, 29358, 29447, 29534, 29621, 29706, 29791, 29874, 29956, 30037, 30117, 30195] ∧
   row 12 =
     [30273, 30349, 30424, 30498, 30571, 30643, 30714, 30783, 30852, 30919, 30985, 31050, 31113, 31176, 31237, 31297] ∧
   row 13 =
     [31356, 31414, 31470, 31526, 31580, 31633, 31685, 31736, 31785, 31833, 31880, 31926, 31971, 32014, 32057, 32098] ∧
   row 14 =
     [32137, 32176, 32213, 32250, 32285, 32318, 32351, 32382, 32412, 32441, 32469, 32495, 32521, 32545, 32567, 32589] ∧
   row 15 =
     [32609, 32628, 32646, 32663, 32678, 32692, 32705, 32717, 32728, 32737, 32745, 32752, 32757, 32761, 32765, 32766] ∧
   qtab 256 = 32767) ∧
  (∀ i : Int,
    let j : Nat := (i % 1024).toNat
    sine i =
        (if j ≤ 256 then qtab j else if j ≤ 512 then qtab (512 - j) else if j ≤ 768 then -qtab (j - 512)
          else -qtab (1024 - j)) ∧
      sine (i + 1024) = sine i ∧ sine (-i) = -sine i ∧ cosine i = sine (i + 256) ∧ -32767 ≤ sine i ∧ sine i ≤ 32767) ∧
  ∀ l n : Nat, 6 ≤ l → l ≤ 10 → n < 2 ^ l →
    window (2 ^ l) n = (32768 - cosine ((n * (1024 / 2 ^ l) : Nat) : Int)) / 2 ∧
      0 ≤ window (2 ^ l) n ∧ window (2 ^ l) n ≤ 32767 ∧ window (2 ^ l) 0 = 0 ∧ window (2 ^ l) (2 ^ l / 2) = 32767

/-- R613, R614 and R615: the FFT's input is the last Nf samples of the block, u[n] = x[N - Nf + n], times the window, asr 15. The
FFT starts from its input in bit-reversed order and in stage t turns each pair a[g+j], a[g+j+half] of a group into
((u + t)/2, (u - t)/2), t being the upper one times the twiddle factor of index j·(1024/span), all rounded by asr; X is the array
after stage L, and P[k] = X[k].re² + X[k].im². Of a block of 16-bit samples it gives Nf bin powers, each in [0, 2^32), so
SPEC_MEM's 32 bits hold every one exactly. -/
def Obligations.BinPowersFitSpecMem : Prop :=
  (∀ (nf : Nat) (x : List Cplx), nf ≤ x.length →
    (windowed nf x).length = nf ∧
      ∀ n, n < nf →
        let u : Cplx := x.getD (x.length - nf + n) ⟨0, 0⟩
        (windowed nf x)[n]? = some ⟨u.re * window nf n / 2 ^ 15, u.im * window nf n / 2 ^ 15⟩) ∧
  (∀ l j i : Nat, i < l → (bitrev l j).testBit i = j.testBit (l - 1 - i)) ∧
  (∀ (l : Nat) (xw : List Cplx), ∃ a : Nat → Nat → Cplx,
    fft l xw = (List.range (2 ^ l)).map (a l) ∧
      (∀ j, j < 2 ^ l → bitrev l j < 2 ^ l ∧ a 0 j = xw.getD (bitrev l j) ⟨0, 0⟩) ∧
      ∀ t g j : Nat, 1 ≤ t → t ≤ l → 2 ^ t ∣ g → g < 2 ^ l → j < 2 ^ (t - 1) →
        let half := 2 ^ (t - 1)
        let wc : Int := cosine ((j * (1024 / 2 ^ t) : Nat) : Int)
        let ws : Int := sine ((j * (1024 / 2 ^ t) : Nat) : Int)
        let u := a (t - 1) (g + j)
        let b := a (t - 1) (g + j + half)
        let tr : Int := (b.re * wc + b.im * ws) / 2 ^ 15
        let ti : Int := (b.im * wc - b.re * ws) / 2 ^ 15
        a t (g + j) = ⟨(u.re + tr) / 2, (u.im + ti) / 2⟩ ∧ a t (g + j + half) = ⟨(u.re - tr) / 2, (u.im - ti) / 2⟩) ∧
  (∀ (c : CfgRegs) (x : List Cplx),
    binPowers c x = (fft c.log2Nf (windowed (2 ^ c.log2Nf) x)).map fun z => z.re * z.re + z.im * z.im) ∧
  ∀ (c : CfgRegs) (x : List Cplx), 6 ≤ c.log2Nf → c.log2Nf ≤ 10 →
    (∀ z ∈ x, -32768 ≤ z.re ∧ z.re ≤ 32767 ∧ -32768 ≤ z.im ∧ z.im ≤ 32767) →
      (binPowers c x).length = 2 ^ c.log2Nf ∧ ∀ p ∈ binPowers c x, 0 ≤ p ∧ p < 2 ^ 32

/-- R620 to R623: the power of a signed bin kb is P[kb mod Nf], and the window holds the bins C - W to C + W once each, in
increasing order. k1 is the least bin of the window with the greatest power, k2 the least such bin more than G away from k1. The
noise bins are the bins of the window more than G away from both, once each; there is at least one, so the mean noise power has
a nonzero divisor; sig and the low-signal flag are as the rule says. -/
def Obligations.ToneSearchFindsFirstMaxima : Prop :=
  ∀ (c : CfgRegs) (p : List Int), 2 * c.toneGuard + 1 ≤ c.acqHalf →
    let inB (kb : Int) : Prop := c.acqCenter - c.acqHalf ≤ kb ∧ kb ≤ c.acqCenter + c.acqHalf
    let k1 := strongestBin c p
    let k2 := secondBin c p k1
    let farFrom (k kb : Int) : Prop := kb - k > c.toneGuard ∨ k - kb > c.toneGuard
    (∀ kb : Int, signedPower c p kb = p.getD (kb % 2 ^ c.log2Nf).toNat 0) ∧
    ((∀ kb, kb ∈ acqBins c ↔ inB kb) ∧ (acqBins c).Pairwise (· < ·)) ∧
    (inB k1 ∧ ∀ kb, inB kb → signedPower c p kb ≤ signedPower c p k1 ∧
      (kb < k1 → signedPower c p kb < signedPower c p k1)) ∧
    (inB k2 ∧ farFrom k1 k2 ∧ ∀ kb, inB kb → farFrom k1 kb → signedPower c p kb ≤ signedPower c p k2 ∧
      (kb < k2 → signedPower c p kb < signedPower c p k2)) ∧
    ((∀ kb, kb ∈ noiseBins c k1 k2 ↔ inB kb ∧ farFrom k1 kb ∧ farFrom k2 kb) ∧ (noiseBins c k1 k2).Nodup) ∧
    let r := toneSearch c p
    r.k1 = k1 ∧ r.k2 = k2 ∧ 0 < (noiseBins c k1 k2).length ∧
      r.nz = ((noiseBins c k1 k2).map (signedPower c p)).sum / ((noiseBins c k1 k2).length : Int) ∧
      r.sig = signedPower c p k1 + signedPower c p k2 ∧ (r.low = true ↔ r.sig ≤ (c.snrFloor : Int) * r.nz)

/-- R631: the first measurement after DEMOD_INIT is taken outright; a later one moves the estimate by asr(g - f, s), which stays
between the old estimate and the measurement, and the update keeps the order of two estimates. -/
def Obligations.SmoothingMovesTowardMeasurement : Prop :=
  ∀ (c : CfgRegs) (f : Word) (g : Int), -(2 ^ 31) ≤ g → g < 2 ^ 31 →
    (smooth c false f g).toInt = g ∧
    (smooth c true f g).toInt = f.toInt + (g - f.toInt) / 2 ^ c.smoothShift ∧
    min f.toInt g ≤ (smooth c true f g).toInt ∧ (smooth c true f g).toInt ≤ max f.toInt g ∧
    ∀ (v : Bool) (f' : Word) (g' : Int), g' < 2 ^ 31 → f.toInt ≤ f'.toInt → g ≤ g' →
      (smooth c v f g).toInt ≤ (smooth c v f' g').toInt

/-- R632: a sample at phase phi is mixed to (asr(re·C + im·S, 15), asr(im·C - re·S, 15)) with C and S the COS and SIN of
phi >> 22; sample n of a mixed block is the input at the phase phi + n·f, and the accumulator moves on by f for every sample. -/
def Obligations.MixerPhaseIsContinuous : Prop :=
  (∀ (phi : Word) (z : Cplx),
    let idx : Int := ((phi.toNat / 2 ^ 22 : Nat) : Int)
    mixSample phi z =
      ⟨(z.re * cosine idx + z.im * sine idx) / 2 ^ 15, (z.im * cosine idx - z.re * sine idx) / 2 ^ 15⟩) ∧
  ∀ (f phi : Word) (x : List Cplx),
    (∀ n : Nat, phaseAfter f phi n = phi + BitVec.ofNat 32 n * f) ∧
    (mixBlock f phi x).length = x.length ∧
    (∀ n (h : n < x.length), (mixBlock f phi x)[n]? = some (mixSample (phi + BitVec.ofNat 32 n * f) x[n])) ∧
    ∀ y, mixBlock f phi (x ++ y) = mixBlock f phi x ++ mixBlock f (phaseAfter f phi x.length) y

/-- R640: the matched filter's A[n], n in [-OS, N), is the energy of the OS mixed samples that end at n, those before the block
taken from the history. -/
def Obligations.MatchedFilterIntegratesOneSymbol : Prop :=
  ∀ (c : CfgRegs) (yhist y : List Cplx), yhist.length = 2 * c.os → y.length = c.symbols * c.os →
    let ym (m : Int) : Cplx := if 0 ≤ m then y.getD m.toNat ⟨0, 0⟩ else yhist.getD (m + 2 * c.os).toNat ⟨0, 0⟩
    ∀ n : Int, -(c.os : Int) ≤ n → n < ((c.symbols * c.os : Nat) : Int) →
      energyAt c (matchedFilter c yhist y) n =
        (((List.range c.os).map fun j => (ym (n - j)).re).sum) ^ 2 +
          (((List.range c.os).map fun j => (ym (n - j)).im).sum) ^ 2

/-- R641: p* is the least phase in [0, OS) with the greatest summed energy over the instants of the block congruent to it. -/
def Obligations.TimingPhaseIsFirstMaximum : Prop :=
  ∀ (c : CfgRegs) (a0 a1 : List Int), 0 < c.os →
    let energy (p : Nat) : Int :=
      (((List.range (c.symbols * c.os)).filter fun n => n % c.os == p).map fun n =>
        energyAt c a0 (n : Int) + energyAt c a1 (n : Int)).sum
    timingPhase c a0 a1 < c.os ∧
      ∀ p, p < c.os → energy p ≤ energy (timingPhase c a0 a1) ∧
        (p < timingPhase c a0 a1 → energy p < energy (timingPhase c a0 a1))

/-- R642 and R643: for a legal OS and NSYM and LAST in [-OS, -1] the instants are exactly the c ≡ p* (mod OS) with
LAST + OS/2 < c < N, in increasing order; there are NSYM - 1 to NSYM + 1 of them, each in [-OS/2 + 1, N - 1], the new LAST is
in [-OS, -1] again, and the first block after DEMOD_INIT emits exactly NSYM. -/
def Obligations.EmissionBounds : Prop :=
  ∀ (c : CfgRegs) (last : Int) (p : Nat), c.os % 2 = 0 → 4 ≤ c.os → 2 ≤ c.symbols → p < c.os →
    -(c.os : Int) ≤ last → last ≤ -1 →
    let n : Int := ((c.symbols * c.os : Nat) : Int)
    let cs := symbolInstants c last p
    (∀ i : Int, i ∈ cs ↔ last + (c.os : Int) / 2 < i ∧ i < n ∧ (c.os : Int) ∣ i - p) ∧ cs.Pairwise (· < ·) ∧
      c.symbols - 1 ≤ cs.length ∧ cs.length ≤ c.symbols + 1 ∧
      (∀ i ∈ cs, -((c.os : Int) / 2) + 1 ≤ i ∧ i ≤ n - 1) ∧
      (∃ i, cs.getLast? = some i ∧ lastAfter c last cs = i - n) ∧
      -(c.os : Int) ≤ lastAfter c last cs ∧ lastAfter c last cs ≤ -1 ∧
      (last = -((c.os : Int) / 2) - 1 → cs.length = c.symbols)

/-- R645: soft bit j is 0 where T = 0, and otherwise GAIN·(E0 - E1)·nout over T, rounded toward zero and clamped to
[-127, 127]. -/
def Obligations.SoftBitsAreNormalizedAndBounded : Prop :=
  ∀ (c : CfgRegs) (a0 a1 cs : List Int),
    let t := (cs.map fun i => energyAt c a0 i + energyAt c a1 i).sum
    (softBits c a0 a1 cs).length = cs.length ∧
    (∀ j (h : j < cs.length),
      (softBits c a0 a1 cs)[j]? = some (if t = 0 then 0 else
        max (-127) (min 127 (Int.tdiv ((c.softGain : Int) * (energyAt c a0 cs[j] - energyAt c a1 cs[j]) * (cs.length : Int))
          t)))) ∧
    ∀ v ∈ softBits c a0 a1 cs, -127 ≤ v ∧ v ≤ 127

/-- R660, R661 and R662: the end of a block step counts the block, its bits and its low-signal flag, counts BSS on, and takes a
snapshot of exactly the listed values iff STATS_DIV ≠ 0 and the new BSS is a multiple of it. -/
def Obligations.BlockEndCountsAndSnapshots : Prop :=
  ∀ (s : State) (c : CfgRegs) (o : BlockOut),
    let due : Prop := c.statsDiv ≠ 0 ∧ (s.demod.bss + 1).toNat % c.statsDiv = 0
    let counted : State :=
      { s with
        cnt :=
          { s.cnt with
            blocks := s.cnt.blocks + 1
            bits := s.cnt.bits + BitVec.ofNat 32 o.soft.length
            lowSignal := if o.tones.low then s.cnt.lowSignal + 1 else s.cnt.lowSignal }
        demod := { s.demod with bss := s.demod.bss + 1 } }
    (¬ due → s.endBlock c o = counted) ∧
    (due → s.endBlock c o =
      { counted with
        stats :=
          { seq := s.stats.seq + 1
            f0 := s.demod.b0.f
            f1 := s.demod.b1.f
            timing := BitVec.ofNat 8 o.pstar
            nout := BitVec.ofNat 32 o.soft.length
            sig := BitVec.ofInt 32 (min o.tones.sig (2 ^ 32 - 1))
            noise := BitVec.ofInt 32 (min o.tones.nz (2 ^ 32 - 1))
            eavg := BitVec.ofInt 32 (min (o.total / (o.soft.length : Int) / 65536) (2 ^ 32 - 1))
            flags := 1#1 ++ BitVec.ofBool (s.framer.fstate == .synchronized) ++ BitVec.ofBool o.tones.low
            peaks := BitVec.ofInt 16 o.tones.k2 ++ BitVec.ofInt 16 o.tones.k1
            block := s.cnt.blocks + 1 }
        specMem := o.powers.map (BitVec.ofInt 32) ++ s.specMem.drop (2 ^ c.log2Nf)
        snapNf := 2 ^ c.log2Nf
        irq := { s.irq with stats := true } })

/-! ## The framer -/

/-- R701 and R702: every bit shifts its hard decision into the window, whatever the framer does with it, and counts FILL up to
LUW; the shift changes nothing else of the framer. -/
def Obligations.WindowShiftsInEveryBit : Prop :=
  (∀ (c : CfgRegs) (fr : Framer) (h : Bool), c.luw ≤ 64 →
    fr.shiftIn c h =
      { fr with
        win := BitVec.ofNat 64 ((2 * fr.win.toNat + (if h then 1 else 0)) % 2 ^ c.luw), fill := min (fr.fill + 1) c.luw }) ∧
  ∀ (s : State) (c : CfgRegs) (v : Int), c.luw ≤ 64 →
    (s.framerBit c v).framer.win.toNat = (2 * s.framer.win.toNat + (if v < 0 then 1 else 0)) % 2 ^ c.luw ∧
      (s.framerBit c v).framer.fill = min (s.framer.fill + 1) c.luw

/-- R702 and R720: the distance of a window that is the unique word with some bits flipped is the number of flipped bits, and it
is at most LUW. -/
def Obligations.DistanceCountsFlippedBits : Prop :=
  ∀ (c : CfgRegs) (fr : Framer) (flips : BitVec 64), c.luw ≤ 64 → flips.toNat < 2 ^ c.luw →
    fr.win = (c.uniqueWord &&& BitVec.ofNat 64 (2 ^ c.luw - 1)) ^^^ flips →
      fr.distance c = ((List.range 64).filter fun k => flips.getLsbD k).length ∧ fr.distance c ≤ c.luw

/-- R710: in Searching, a bit that fills the window and leaves it within the tolerance acquires; every other bit changes only the
window. -/
def Obligations.SearchingAcquiresWithinTolerance : Prop :=
  ∀ (s : State) (c : CfgRegs) (v : Int), s.framer.fstate = .searching →
    let fr := s.framer.shiftIn c (decide (v < 0))
    (fr.fill = c.luw ∧ fr.distance c ≤ c.uwTol → ∃ buf,
      s.framerBit c v =
        { s with
          framer := { fr with fstate := .synchronized, phase := .cw, cnt := 0, miss := 0, cwBuf := buf }
          cnt := { s.cnt with syncAcq := s.cnt.syncAcq + 1 }
          irq := { s.irq with syncChg := true }
          lastUw := { dist := BitVec.ofNat 7 (fr.distance c), valid := true } }) ∧
    (¬ (fr.fill = c.luw ∧ fr.distance c ≤ c.uwTol) → s.framerBit c v = { s with framer := fr })

/-- R711 and R712: a Synchronized framer collects N_CW soft bits unchanged and in order; the bit that completes the codeword
hands it to the decoder, counts the frame and opens the gap, or the marker where the gap is empty. The decoder runs over the
code graph of the entries H_MEM[0 .. H_LEN-1], with MAXIT, SCALE and OFFSET of the configuration, and its result goes to the
outcome gate (R800, R807, R822). -/
def Obligations.CodewordIsCollectedThenDecoded : Prop :=
  ∀ (s : State) (c : CfgRegs) (v : Int), s.framer.fstate = .synchronized → s.framer.phase = .cw →
    s.framer.cwBuf.length = s.framer.cnt →
    let fr := s.framer.shiftIn c (decide (v < 0))
    let cw := s.framer.cwBuf ++ [v]
    (s.framer.cnt + 1 ≠ c.nCw → s.framerBit c v = { s with framer := { fr with cwBuf := cw, cnt := s.framer.cnt + 1 } }) ∧
    (s.framer.cnt + 1 = c.nCw → ∃ buf,
      let d := State.decodeCodeword { s with cnt := { s.cnt with frames := s.cnt.frames + 1 } } c cw
      s.framerBit c v =
        { d with framer := { fr with cwBuf := buf, cnt := 0, phase := if 0 < c.gapBits then .gap else .uw } }) ∧
    ∀ (u : State) (l : List Int),
      u.decodeCodeword c l =
        u.decodeGate c
          (ldpcDecode (graphRows ((List.range c.hCount).map u.hRead)) c.maxIt c.scale c.offset l)

/-- R713 to R717: the gap is skipped; at the last marker bit the distance is recorded, a match ends the run of misses, a miss is
counted and keeps the frame timing, and LOSS_THRESH misses in a row lose sync, with WIN and FILL kept. -/
def Obligations.GapAndMarkerAreTracked : Prop :=
  ∀ (s : State) (c : CfgRegs) (v : Int), s.framer.fstate = .synchronized →
    let fr := s.framer.shiftIn c (decide (v < 0))
    let d := fr.distance c
    let seen : LastUw := { dist := BitVec.ofNat 7 d, valid := true }
    let next (m : Nat) (buf : List Int) : Framer := { fr with phase := .cw, cnt := 0, miss := m, cwBuf := buf }
    (s.framer.phase = .gap →
      (s.framer.cnt + 1 = c.gapBits → s.framerBit c v = { s with framer := { fr with phase := .uw, cnt := 0 } }) ∧
      (s.framer.cnt + 1 ≠ c.gapBits → s.framerBit c v = { s with framer := { fr with cnt := s.framer.cnt + 1 } })) ∧
    (s.framer.phase = .uw →
      (s.framer.cnt + 1 ≠ c.luw → s.framerBit c v = { s with framer := { fr with cnt := s.framer.cnt + 1 } }) ∧
      (s.framer.cnt + 1 = c.luw → d ≤ c.uwTol → ∃ buf,
        s.framerBit c v = { s with framer := next 0 buf, lastUw := seen }) ∧
      (s.framer.cnt + 1 = c.luw → c.uwTol < d → s.framer.miss + 1 < c.lossThresh → ∃ buf,
        s.framerBit c v =
          { s with
            framer := next (s.framer.miss + 1) buf, lastUw := seen, cnt := { s.cnt with uwMiss := s.cnt.uwMiss + 1 } }) ∧
      (s.framer.cnt + 1 = c.luw → c.uwTol < d → c.lossThresh ≤ s.framer.miss + 1 → ∃ buf,
        s.framerBit c v =
          { s with
            framer := { next 0 buf with fstate := .searching }
            lastUw := seen
            cnt := { s.cnt with uwMiss := s.cnt.uwMiss + 1, syncLoss := s.cnt.syncLoss + 1 }
            irq := { s.irq with syncChg := true } }))

/-! ## The decoder -/

/-- R801, R804 and R805: each new check message has the magnitude and the sign that the other messages of its row give, and stays
in [-127, 127] where they do. In the variable-node update, with r one message for each edge, S[v] is L[v] and the messages of
the edges of v summed, and lies within 127·(1 + d) where v has at most d edges; q[e] is S[var(e)] - r[e] clamped to [-127, 127];
c[v] is 1 iff S[v] is negative. -/
def Obligations.CheckUpdateIsMinSum : Prop :=
  (∀ (scale offset : Nat) (q : List Int), 2 ≤ q.length →
    (checkUpdate scale offset q).length = q.length ∧
    (∀ e, e < q.length →
      ∃ mn ∈ (q.eraseIdx e).map Int.natAbs, (∀ x ∈ q.eraseIdx e, mn ≤ x.natAbs) ∧
        let mag : Int := max 0 (((mn * scale : Nat) : Int) / 8 - (offset : Int))
        (checkUpdate scale offset q)[e]? =
          some (if (q.eraseIdx e).countP (fun x => decide (x < 0)) % 2 = 1 then -mag else mag)) ∧
    (scale ≤ 8 → (∀ x ∈ q, -127 ≤ x ∧ x ≤ 127) → ∀ r ∈ checkUpdate scale offset q, -127 ≤ r ∧ r ≤ 127)) ∧
  (∀ (rows : List (List Nat)) (l : List Int) (r : List (List Int)), r.map List.length = rows.map List.length →
    (variableSums rows l r).length = l.length ∧
    ∀ v (h : v < l.length),
      let ofRow (m : Nat) : Int :=
        ((List.range (rows.getD m []).length).map fun e =>
          if (rows.getD m []).getD e 0 = v then (r.getD m []).getD e 0 else 0).sum
      let total : Int := l[v] + ((List.range rows.length).map ofRow).sum
      (variableSums rows l r)[v]? = some total ∧
        ∀ d : Nat, rows.flatten.count v ≤ d → (∀ x ∈ l, -127 ≤ x ∧ x ≤ 127) →
          (∀ x ∈ r.flatten, -127 ≤ x ∧ x ≤ 127) → -(127 * (1 + (d : Int))) ≤ total ∧ total ≤ 127 * (1 + (d : Int))) ∧
  (∀ (sums : List Int) (row : List Nat) (r : List Int), r.length = row.length →
    (variableUpdate sums row r).length = row.length ∧
    ∀ e, e < row.length →
      (variableUpdate sums row r)[e]? = some (max (-127) (min 127 (sums.getD (row.getD e 0) 0 - r.getD e 0)))) ∧
  ∀ sums : List Int, decisions sums = sums.map fun x => decide (x < 0)

/-- R803, R806, R807 and R808: the syndrome is zero iff the XOR of the bits of every row's variables is 0; iteration 0 accepts the
channel decisions if they satisfy every check; otherwise the decoder ends within MAXIT iterations, with success only where every
check is satisfied and with failure only at MAXIT with a check unsatisfied, and gives a bit for every soft bit. The messages
start at the clamped channel values; each iteration updates every check, then every variable; the result is the bits of the
last iteration taken, and no iteration before it, iteration 0 included, satisfied every check. -/
def Obligations.DecoderTerminatesWithinMaxIt : Prop :=
  (∀ (rows : List (List Nat)) (bits : List Bool),
    syndromeZero rows bits = true ↔ ∀ row ∈ rows, (row.map fun v => bits.getD v false).foldl Bool.xor false = false) ∧
  ∀ (rows : List (List Nat)) (maxIt scale offset : Nat) (l : List Int),
    let r := ldpcDecode rows maxIt scale offset l
    let hard := l.map fun x => decide (x < 0)
    ((syndromeZero rows hard = true → r = { success := true, iters := 0, bits := hard }) ∧ r.iters ≤ maxIt ∧
      r.bits.length = l.length ∧ (r.success = true → syndromeZero rows r.bits = true) ∧
      (r.success = false → r.iters = maxIt ∧ syndromeZero rows r.bits = false)) ∧
    let toVariable (q : List (List Int)) : List (List Int) := q.map (checkUpdate scale offset)
    let sums (q : List (List Int)) : List Int := variableSums rows l (toVariable q)
    let next (q : List (List Int)) : List (List Int) := List.zipWith (variableUpdate (sums q)) rows (toVariable q)
    let start : List (List Int) := rows.map fun row => row.map fun v => max (-127) (min 127 (l.getD v 0))
    let bitsAfter (it : Nat) : List Bool :=
      if it = 0 then hard else (sums (Nat.iterate next (it - 1) start)).map fun x => decide (x < 0)
    r.bits = bitsAfter r.iters ∧ ∀ it, it < r.iters → syndromeZero rows (bitsAfter it) = false

/-- R821: one bit step shifts the CRC left and XORs 0x1021 where bit 15 was 1; a byte is XORed into the high byte, and eight bit
steps follow; the CRC of a message starts at 0xFFFF and has no final XOR; the checksum of a packet of P ≥ 2 bytes is right iff
the CRC of pkt[0 .. P-3] is pkt[P-2]·256 + pkt[P-1]. The CRC of the ASCII string 123456789 is 0x29B1. So the checksum is right
iff the CRC run on over the whole packet, trailer included, ends at 0. -/
def Obligations.CrcOfWholePacketIsZero : Prop :=
  (∀ crc : BitVec 16,
    crcBit crc = if crc &&& 0x8000#16 ≠ 0#16 then (crc <<< 1) ^^^ 0x1021#16 else crc <<< 1) ∧
  (∀ (crc : BitVec 16) (b : Byte), crcByte crc b = Nat.iterate crcBit 8 (crc ^^^ BitVec.ofNat 16 (b.toNat * 2 ^ 8))) ∧
  (∀ msg : List Byte, crc16 msg = msg.foldl crcByte 0xFFFF#16) ∧
  crc16 [0x31, 0x32, 0x33, 0x34, 0x35, 0x36, 0x37, 0x38, 0x39] = 0x29B1#16 ∧
  ∀ pkt : List Byte, 2 ≤ pkt.length →
    (crcOk pkt = true ↔
      (crc16 (pkt.take (pkt.length - 2))).toNat =
        (pkt.getD (pkt.length - 2) 0).toNat * 256 + (pkt.getD (pkt.length - 1) 0).toNat) ∧
    (crcOk pkt = true ↔ crc16 pkt = 0#16)

/-- R820 and R822: the packet has P bytes, codeword bit 8b + j being bit 7 - j of byte b; the outcome gate records the decode and
drops the packet for a failed parity or a failed checksum, counting which, and otherwise pushes it and counts it. -/
def Obligations.OutcomeGatePushesCheckedPackets : Prop :=
  (∀ (p : Nat) (bits : List Bool),
    (assemblePacket p bits).length = p ∧
      ∀ b j, b < p → j < 8 → ((assemblePacket p bits).getD b 0).getLsbD (7 - j) = bits.getD (8 * b + j) false) ∧
  ∀ (s : State) (c : CfgRegs) (d : DecodeResult),
    let pkt := assemblePacket c.pktBytes d.bits
    (d.success = false →
      s.decodeGate c d =
        { s with
          lastDecode := { iters := BitVec.ofNat 8 d.iters, parityOk := false, crcOk := false, valid := true }
          cnt := { s.cnt with fecFail := s.cnt.fecFail + 1 } }) ∧
    (d.success = true → crcOk pkt = false →
      s.decodeGate c d =
        { s with
          lastDecode := { iters := BitVec.ofNat 8 d.iters, parityOk := true, crcOk := false, valid := true }
          cnt := { s.cnt with crcFail := s.cnt.crcFail + 1 } }) ∧
    (d.success = true → crcOk pkt = true →
      s.decodeGate c d =
        { s with
          lastDecode := { iters := BitVec.ofNat 8 d.iters, parityOk := true, crcOk := true, valid := true }
          cnt := { s.cnt with pktOk := s.cnt.pktOk + 1 }
          pktFifo := s.pktFifo ++ [pkt] })

/-! ## Invariants and headline results -/

/-- Every step keeps H_MEM in its canonical form, within P_H_MAX entries (R130; log 7), and the reserved bits of the shadow and
of the active configuration at 0 (R103, R302). -/
def Obligations.StepKeepsMemoryAndReservedBits : Prop :=
  ∀ s t : State, step s = .next t → (s.MemoryOk → t.MemoryOk) ∧ (s.ConfigMasked → t.ConfigMasked)

/-- R822, R430: every packet in PKT_FIFO has a passing checksum, in every state that a step reaches from one where that holds. -/
def Obligations.StepKeepsPacketsChecked : Prop :=
  ∀ s t : State, s.PacketsChecked → step s = .next t → t.PacketsChecked

/-- R215: the engine never runs with a configuration and an H_MEM other than those a CONFIGURE would pass: the active
configuration passes every check against H_MEM as it stands, and every step keeps that. -/
def Obligations.StepKeepsActiveConfigValid : Prop :=
  ∀ s t : State, s.ConfigValid → step s = .next t → t.ConfigValid

/-- The machine's invariant: every step keeps it. -/
def Obligations.StepKeepsInv : Prop := ∀ s t : State, s.Inv → step s = .next t → t.Inv

/-- The invariant holds right after reset. -/
def Obligations.InvHoldsAtReset : Prop := State.reset.Inv

/-- R601: Pmax bounds the packets that one block step pushes, so a step that R601 enables never overfills PKT_FIFO. -/
def Obligations.BlockPushesAtMostPmaxPackets : Prop :=
  ∀ (s : State) (c : CfgRegs), s.Inv → s.mode = .run c → c.symbols * c.os ≤ s.sampFifo.length →
    (s.engineStep c).pktFifo.length ≤ s.pktFifo.length + (1 + c.symbols / c.nCw)

/-- R665: a block step over all-zero samples, history and soft bits leaves them all zero and pushes no packet. -/
def Obligations.AllZeroStreamYieldsNoPacket : Prop :=
  ∀ (s : State) (c : CfgRegs), s.AllZero → (s.engineStep c).AllZero ∧ (s.engineStep c).pktFifo = s.pktFifo
end

