-- ==== Sys2Proof/Laws/Arith.lean ====
section
/-! SUPPORT. The integer operators and the least-index extremes of R12: what they give, once for each. -/

namespace Sys2Proof.Machine

/-- `asr` of zero (R12). -/
@[simp] theorem asr_zero (s : Nat) : asr 0 s = 0 := by simp [asr]

/-- `asr` bounds the shifted value from both sides (R12). -/
theorem asr_bounds (v : Int) (s : Nat) : asr v s * 2 ^ s ≤ v ∧ v < asr v s * 2 ^ s + 2 ^ s := by
  have h : (0 : Int) < 2 ^ s := by positivity
  exact ⟨Int.ediv_mul_le v h.ne', by
    have := Int.lt_ediv_add_one_mul_self v h
    rw [add_mul, one_mul] at this
    exact this⟩

/-- `asr` is monotone (R12). -/
theorem asr_mono {v w : Int} (h : v ≤ w) (s : Nat) : asr v s ≤ asr w s := Int.ediv_le_ediv (by positivity) h

/-- `clamp` between bounds in order (R12). -/
theorem clamp_bounds (v lo hi : Int) (h : lo ≤ hi) : lo ≤ clamp v lo hi ∧ clamp v lo hi ≤ hi := by
  unfold clamp
  split
  · omega
  · split <;> omega

/-- `clamp` of a value within the bounds (R12). -/
theorem clamp_eq_self (v lo hi : Int) (h : lo ≤ v) (h' : v ≤ hi) : clamp v lo hi = v := by
  unfold clamp
  split
  · omega
  · split <;> omega

/-- `clamp` as a maximum of a minimum (R12). -/
theorem clamp_eq_max_min (v lo hi : Int) (h : lo ≤ hi) : clamp v lo hi = max lo (min hi v) := by
  unfold clamp
  split
  · omega
  · split <;> omega

/-- The square of a modulus is not negative (R14). -/
theorem normSq_nonneg (z : Cplx) : 0 ≤ normSq z := by
  unfold normSq
  nlinarith [mul_self_nonneg z.re, mul_self_nonneg z.im]

/-- The extreme of `best :: xs`: it is an element, none is greater, and none before it is as great. -/
theorem firstMaxFrom_spec {α : Type} (f : α → Int) (xs : List α) (best : α) :
    ∃ pre post, best :: xs = pre ++ firstMaxFrom f best xs :: post ∧
      (∀ x ∈ pre, f x < f (firstMaxFrom f best xs)) ∧ ∀ x ∈ post, f x ≤ f (firstMaxFrom f best xs) := by
  induction xs generalizing best with
  | nil => exact ⟨[], [], rfl, by simp, by simp⟩
  | cons x xs ih =>
    rw [firstMaxFrom]
    split
    · rename_i hlt
      obtain ⟨pre, post, heq, hpre, hpost⟩ := ih x
      refine ⟨best :: pre, post, by rw [heq]; rfl, ?_, hpost⟩
      intro y hy
      rcases List.mem_cons.mp hy with rfl | hy
      · cases pre with
        | nil =>
          have : x = firstMaxFrom f x xs := (List.cons.inj heq).1
          rwa [← this]
        | cons p ps =>
          have : x = p := (List.cons.inj heq).1
          have := hpre p List.mem_cons_self
          simp_all only
          omega
      · exact hpre y hy
    · rename_i hle
      obtain ⟨pre, post, heq, hpre, hpost⟩ := ih best
      cases pre with
      | nil =>
        obtain ⟨hb, hrest⟩ := List.cons.inj heq
        refine ⟨[], x :: post, congrArg₂ List.cons hb (congrArg (List.cons x) hrest), by simp, ?_⟩
        intro y hy
        rcases List.mem_cons.mp hy with rfl | hy
        · rw [← hb]; omega
        · exact hpost y hy
      | cons p ps =>
        obtain ⟨hb, hrest⟩ := List.cons.inj heq
        refine ⟨p :: x :: ps, post, congrArg₂ List.cons hb (congrArg (List.cons x) hrest), ?_, hpost⟩
        have hp := hpre p List.mem_cons_self
        intro y hy
        rcases List.mem_cons.mp hy with rfl | hy
        · exact hp
        · rcases List.mem_cons.mp hy with rfl | hy
          · rw [hb] at hle; omega
          · exact hpre y (List.mem_cons_of_mem _ hy)

/-- The extreme of a list that is not empty: it is an element, none is greater, and none before it is as great (R12). -/
theorem firstMax_spec {α : Type} (f : α → Int) (d : α) (xs : List α) (h : xs ≠ []) :
    ∃ pre post, xs = pre ++ firstMax f d xs :: post ∧ (∀ x ∈ pre, f x < f (firstMax f d xs)) ∧
      ∀ x ∈ post, f x ≤ f (firstMax f d xs) := by
  cases xs with
  | nil => exact absurd rfl h
  | cons x xs => exact firstMaxFrom_spec f xs x

/-- The extreme is an element of the list. -/
theorem firstMax_mem {α : Type} (f : α → Int) (d : α) (xs : List α) (h : xs ≠ []) : firstMax f d xs ∈ xs := by
  obtain ⟨pre, post, heq, _, _⟩ := firstMax_spec f d xs h
  have hm : firstMax f d xs ∈ pre ++ firstMax f d xs :: post := by simp
  rwa [← heq] at hm

/-- No element of the list is greater than the extreme. -/
theorem le_firstMax {α : Type} (f : α → Int) (d : α) (xs : List α) {x : α} (h : x ∈ xs) : f x ≤ f (firstMax f d xs) := by
  obtain ⟨pre, post, heq, hpre, hpost⟩ := firstMax_spec f d xs (List.ne_nil_of_mem h)
  rw [heq] at h
  rcases List.mem_append.mp h with h | h
  · exact (hpre x h).le
  · rcases List.mem_cons.mp h with rfl | h
    · exact le_refl _
    · exact hpost x h

/-- In a list in increasing order every element less than the extreme is strictly smaller in `f`. -/
theorem lt_firstMax_of_lt {α : Type} [Preorder α] (f : α → Int) (d : α) (xs : List α) (hs : xs.Pairwise (· < ·)) {x : α}
    (h : x ∈ xs) (hlt : x < firstMax f d xs) : f x < f (firstMax f d xs) := by
  obtain ⟨pre, post, heq, hpre, hpost⟩ := firstMax_spec f d xs (List.ne_nil_of_mem h)
  rw [heq] at h hs
  rcases List.mem_append.mp h with h | h
  · exact hpre x h
  · rcases List.mem_cons.mp h with rfl | h
    · exact absurd hlt (lt_irrefl _)
    · have := (List.pairwise_append.mp hs).2.1
      have := (List.pairwise_cons.mp this).1 x h
      exact absurd (lt_trans hlt this) (lt_irrefl _)

end Sys2Proof.Machine
end

