-- ==== Sys2Proof/Laws/Demod.lean ====
section
/-! SUPPORT. The lists of the demodulator: their lengths, and their entries where all the samples are zero (R613 to R665). -/

namespace Sys2Proof.Machine

/-- A mixed block has as many samples as the block (R632). -/
@[simp] theorem mixBlock_length (f phi : Word) (x : List Cplx) : (mixBlock f phi x).length = x.length := by
  induction x generalizing phi with
  | nil => rfl
  | cons z x ih => simp [mixBlock, ih]

/-- `boxcar` gives as many sums as asked for. -/
@[simp] theorem boxcar_length (os cnt : Nat) (zs : List Cplx) : (boxcar os cnt zs).length = cnt := by
  induction cnt generalizing zs with
  | zero => rfl
  | succ cnt ih => simp [boxcar, ih]

/-- Sum `n` of `boxcar`: the energy of the `os` entries from place `n` on. -/
theorem boxcar_getElem? (os cnt : Nat) (zs : List Cplx) (n : Nat) (h : n < cnt) :
    (boxcar os cnt zs)[n]? = some (normSq (csum ((zs.drop n).take os))) := by
  induction cnt generalizing zs n with
  | zero => omega
  | succ cnt ih =>
    cases n with
    | zero => simp [boxcar]
    | succ n => simpa [boxcar] using ih zs.tail n (by omega)

/-- The matched filter's output covers [-OS, N) (R640). -/
@[simp] theorem matchedFilter_length (c : CfgRegs) (yhist y : List Cplx) :
    (matchedFilter c yhist y).length = c.blockLen + c.os := by
  simp [matchedFilter]

/-- The reversal of L bits is below 2^L (R614). -/
theorem bitrev_lt (l j : Nat) : bitrev l j < 2 ^ l := by
  induction l generalizing j with
  | zero => simp [bitrev]
  | succ l ih =>
    have h := ih (j / 2)
    have h2 : j % 2 < 2 := Nat.mod_lt _ (by decide)
    simp only [bitrev, pow_succ]
    nlinarith

/-- A stage of the FFT has nf points (R614). -/
@[simp] theorem fftStage_length (nf t : Nat) (a : List Cplx) : (fftStage nf t a).length = nf := by simp [fftStage]

/-- Every stage of the FFT keeps the number of points (R614). -/
@[simp] theorem fftStages_length (nf : Nat) (a : List Cplx) (t : Nat) (h : a.length = nf) : (fftStages nf a t).length = nf := by
  cases t <;> simp [fftStages, h]

/-- The FFT has 2^l points (R614). -/
@[simp] theorem fft_length (l : Nat) (xw : List Cplx) : (fft l xw).length = 2 ^ l := by
  unfold fft
  cases l <;> simp [fftStages]

/-- There are Nf bin powers (R615). -/
@[simp] theorem binPowers_length (c : CfgRegs) (x : List Cplx) : (binPowers c x).length = 2 ^ c.log2Nf := by
  simp [binPowers]

/-- There are as many soft bits as instants (R645). -/
@[simp] theorem softBits_length (c : CfgRegs) (a0 a1 cs : List Int) : (softBits c a0 a1 cs).length = cs.length := by
  simp [softBits]

/-- A soft bit lies in [-127, 127] (R645). -/
theorem softBit_bounds (gain nout : Nat) (e0 e1 t : Int) : -127 ≤ softBit gain nout e0 e1 t ∧ softBit gain nout e0 e1 t ≤ 127 := by
  unfold softBit
  split
  · omega
  · exact clamp_bounds _ _ _ (by decide)

/-- A zero sample mixes to zero (R632). -/
theorem mixSample_zero (phi : Word) : mixSample phi Cplx.zero = Cplx.zero := by
  simp [mixSample, Cplx.zero]

/-- Zero samples mix to zeros (R632). -/
theorem mixBlock_zero (f phi : Word) (x : List Cplx) (h : ∀ z ∈ x, z = Cplx.zero) : ∀ z ∈ mixBlock f phi x, z = Cplx.zero := by
  induction x generalizing phi with
  | nil => simp [mixBlock]
  | cons y x ih =>
    intro z hz
    rcases List.mem_cons.mp hz with rfl | hz
    · rw [h y List.mem_cons_self, mixSample_zero]
    · exact ih _ (fun w hw => h w (List.mem_cons_of_mem _ hw)) z hz

/-- The sum of zeros (R14). -/
theorem csum_zero (zs : List Cplx) (h : ∀ z ∈ zs, z = Cplx.zero) : csum zs = Cplx.zero := by
  induction zs with
  | nil => rfl
  | cons y zs ih =>
    rw [show csum (y :: zs) = cadd y (csum zs) from rfl, h y List.mem_cons_self,
      ih fun w hw => h w (List.mem_cons_of_mem _ hw)]
    rfl

/-- The matched filter of zeros (R640). -/
theorem boxcar_zero (os cnt : Nat) (zs : List Cplx) (h : ∀ z ∈ zs, z = Cplx.zero) : ∀ e ∈ boxcar os cnt zs, e = 0 := by
  induction cnt generalizing zs with
  | zero => simp [boxcar]
  | succ cnt ih =>
    intro e he
    rcases List.mem_cons.mp he with rfl | he
    · rw [csum_zero _ fun z hz => h z (List.mem_of_mem_take hz)]
      rfl
    · exact ih zs.tail (fun z hz => h z (List.mem_of_mem_tail hz)) e he

end Sys2Proof.Machine
end

