-- ==== Sys2Proof/Laws/Memory.lean ====
section
/-! SUPPORT. H_MEM: what `find` gives after `store`, and that `store` keeps the canonical form (R13, R130; log 7). -/

namespace Sys2Proof.Machine

/-- Reading an entry after a store: the stored value at its index, the old contents elsewhere. -/
theorem Memory.find_store (m : Memory) (a : Nat) (v : Word) (b : Nat) :
    (Memory.store m a v).find b = if b = a then some v else Memory.find m b := by
  induction m with
  | nil => simp [Memory.store, Memory.find]
  | cons e rest ih =>
    obtain ⟨c, w⟩ := e
    simp only [Memory.store]
    split
    · simp only [Memory.find]
    · split
      · simp only [Memory.find]
        subst_vars
        split <;> simp_all
      · simp only [Memory.find, ih]
        split <;> simp_all
        intro
        omega

/-- The canonical form, entry by entry. -/
theorem Memory.wf_cons (a : Nat) (w : Word) (m : Memory) :
    Memory.wf ((a, w) :: m) = true ↔ (∀ e ∈ m, a < e.1) ∧ Memory.wf m = true := by
  induction m generalizing a w with
  | nil => simp [Memory.wf]
  | cons e rest ih =>
    obtain ⟨b, x⟩ := e
    rw [Memory.wf, Bool.and_eq_true, decide_eq_true_eq, ih b x]
    constructor
    · rintro ⟨hab, hall, hrest⟩
      refine ⟨?_, hall, hrest⟩
      intro e he
      rcases List.mem_cons.mp he with rfl | he
      · exact hab
      · exact lt_trans hab (hall e he)
    · rintro ⟨hall, hb, hrest⟩
      exact ⟨hall (b, x) List.mem_cons_self, hb, hrest⟩

/-- What a store can leave in the memory: the new entry, or an old one. -/
theorem Memory.mem_store (m : Memory) (a : Nat) (v : Word) (e : Nat × Word) (h : e ∈ Memory.store m a v) :
    e = (a, v) ∨ e ∈ m := by
  induction m with
  | nil => simpa [Memory.store] using h
  | cons d rest ih =>
    obtain ⟨c, w⟩ := d
    simp only [Memory.store] at h
    split at h
    · simpa using h
    · split at h
      · rcases List.mem_cons.mp h with h | h
        · exact .inl h
        · exact .inr (List.mem_cons_of_mem _ h)
      · rcases List.mem_cons.mp h with h | h
        · exact .inr (h ▸ List.mem_cons_self)
        · exact (ih h).imp_right (List.mem_cons_of_mem _)

/-- A store keeps the canonical form. -/
theorem Memory.store_wf (m : Memory) (a : Nat) (v : Word) (h : Memory.wf m = true) : (Memory.store m a v).wf = true := by
  induction m with
  | nil => rfl
  | cons d rest ih =>
    obtain ⟨c, w⟩ := d
    have hc := (Memory.wf_cons c w rest).mp h
    simp only [Memory.store]
    split
    · rename_i hac
      refine (Memory.wf_cons _ _ _).mpr ⟨?_, h⟩
      intro e he
      rcases List.mem_cons.mp he with rfl | he
      · exact hac
      · exact lt_trans hac (hc.1 e he)
    · split
      · rename_i hac
        subst hac
        exact (Memory.wf_cons _ _ _).mpr hc
      · rename_i hlt hne
        refine (Memory.wf_cons _ _ _).mpr ⟨?_, ih hc.2⟩
        intro e he
        rcases Memory.mem_store _ _ _ _ he with rfl | he
        · exact lt_of_le_of_ne (not_lt.mp hlt) (Ne.symm hne)
        · exact hc.1 e he

/-- The memory at reset is in canonical form. -/
theorem State.reset_hmem_wf : State.reset.hmem.wf = true := rfl

/-- Reading an entry where the memory holds it. -/
theorem State.hRead_of_find (s : State) (a : Nat) (w : Word) (h : s.hmem.find a = some w) : s.hRead a = w := by
  simp [State.hRead, h]

/-- Reading an entry that has not been written: its draw. -/
theorem State.hRead_of_not_written (s : State) (a : Nat) (h : s.hmem.find a = none) :
    s.hRead a = Config.hMemDraw s.powerOns a := by
  simp [State.hRead, h]

/-- An entry that no pair of the memory names is not written. -/
theorem Memory.find_eq_none (m : Memory) (a : Nat) (h : ∀ e ∈ m, e.1 ≠ a) : Memory.find m a = none := by
  induction m with
  | nil => rfl
  | cons d rest ih =>
    obtain ⟨c, w⟩ := d
    rw [Memory.find, if_neg (Ne.symm (h (c, w) List.mem_cons_self))]
    exact ih fun e he => h e (List.mem_cons_of_mem _ he)

/-- An accepted H_DATA write: the entry at H_ADDR afterwards. -/
theorem State.storeH_hRead_same (s : State) (w : Word) : (s.storeH w).hRead s.hAddr.toNat = w := by
  simp [State.hRead, State.storeH, Memory.find_store]

/-- An accepted H_DATA write: every other entry afterwards. -/
theorem State.storeH_hRead_other (s : State) (w : Word) (a : Nat) (h : a ≠ s.hAddr.toNat) :
    (s.storeH w).hRead a = s.hRead a := by
  simp [State.hRead, State.storeH, Memory.find_store, h]

/-- The entries a decode reads depend on the memory and its draw alone. -/
theorem State.hEntries_congr {s t : State} (hm : t.hmem = s.hmem) (hp : t.powerOns = s.powerOns) (n : Nat) :
    t.hEntries n = s.hEntries n := by
  simp [State.hEntries, State.hRead, hm, hp]

/-- As many entries as asked for. -/
@[simp] theorem State.hEntries_length (s : State) (n : Nat) : (s.hEntries n).length = n := by simp [State.hEntries]

end Sys2Proof.Machine
end

