-- ==== Sys2Proof/Laws/State.lean ====
section
/-! SUPPORT. One lemma for each field of State and each named update of it: what the field is afterwards. -/

namespace Sys2Proof.Machine

variable (s : State)

/-! ### answerRead -/

@[simp] theorem State.answerRead_par (v : Word) : (s.answerRead v).par = s.par := rfl
@[simp] theorem State.answerRead_mode (v : Word) : (s.answerRead v).mode = s.mode := rfl
@[simp] theorem State.answerRead_err (v : Word) : (s.answerRead v).err = s.err := rfl
@[simp] theorem State.answerRead_cfgErr (v : Word) : (s.answerRead v).cfgErr = s.cfgErr := rfl
@[simp] theorem State.answerRead_irq (v : Word) : (s.answerRead v).irq = s.irq := rfl
@[simp] theorem State.answerRead_irqEnable (v : Word) : (s.answerRead v).irqEnable = s.irqEnable := rfl
@[simp] theorem State.answerRead_shadow (v : Word) : (s.answerRead v).shadow = s.shadow := rfl
@[simp] theorem State.answerRead_hAddr (v : Word) : (s.answerRead v).hAddr = s.hAddr := rfl
@[simp] theorem State.answerRead_hmem (v : Word) : (s.answerRead v).hmem = s.hmem := rfl
@[simp] theorem State.answerRead_powerOns (v : Word) : (s.answerRead v).powerOns = s.powerOns := rfl
@[simp] theorem State.answerRead_sampFifo (v : Word) : (s.answerRead v).sampFifo = s.sampFifo := rfl
@[simp] theorem State.answerRead_pktFifo (v : Word) : (s.answerRead v).pktFifo = s.pktFifo := rfl
@[simp] theorem State.answerRead_rdWord (v : Word) : (s.answerRead v).rdWord = s.rdWord := rfl
@[simp] theorem State.answerRead_pkw (v : Word) : (s.answerRead v).pkw = s.pkw := rfl
@[simp] theorem State.answerRead_cnt (v : Word) : (s.answerRead v).cnt = s.cnt := rfl
@[simp] theorem State.answerRead_lastDecode (v : Word) : (s.answerRead v).lastDecode = s.lastDecode := rfl
@[simp] theorem State.answerRead_lastUw (v : Word) : (s.answerRead v).lastUw = s.lastUw := rfl
@[simp] theorem State.answerRead_stats (v : Word) : (s.answerRead v).stats = s.stats := rfl
@[simp] theorem State.answerRead_specMem (v : Word) : (s.answerRead v).specMem = s.specMem := rfl
@[simp] theorem State.answerRead_snapNf (v : Word) : (s.answerRead v).snapNf = s.snapNf := rfl
@[simp] theorem State.answerRead_demod (v : Word) : (s.answerRead v).demod = s.demod := rfl
@[simp] theorem State.answerRead_framer (v : Word) : (s.answerRead v).framer = s.framer := rfl
@[simp] theorem State.answerRead_reply (v : Word) : (s.answerRead v).reply = some { resp := .okay, rdata := some v } := rfl
@[simp] theorem State.answerRead_script (v : Word) : (s.answerRead v).script = s.script := rfl

/-! ### answerWrite -/

@[simp] theorem State.answerWrite_par : s.answerWrite.par = s.par := rfl
@[simp] theorem State.answerWrite_mode : s.answerWrite.mode = s.mode := rfl
@[simp] theorem State.answerWrite_err : s.answerWrite.err = s.err := rfl
@[simp] theorem State.answerWrite_cfgErr : s.answerWrite.cfgErr = s.cfgErr := rfl
@[simp] theorem State.answerWrite_irq : s.answerWrite.irq = s.irq := rfl
@[simp] theorem State.answerWrite_irqEnable : s.answerWrite.irqEnable = s.irqEnable := rfl
@[simp] theorem State.answerWrite_shadow : s.answerWrite.shadow = s.shadow := rfl
@[simp] theorem State.answerWrite_hAddr : s.answerWrite.hAddr = s.hAddr := rfl
@[simp] theorem State.answerWrite_hmem : s.answerWrite.hmem = s.hmem := rfl
@[simp] theorem State.answerWrite_powerOns : s.answerWrite.powerOns = s.powerOns := rfl
@[simp] theorem State.answerWrite_sampFifo : s.answerWrite.sampFifo = s.sampFifo := rfl
@[simp] theorem State.answerWrite_pktFifo : s.answerWrite.pktFifo = s.pktFifo := rfl
@[simp] theorem State.answerWrite_rdWord : s.answerWrite.rdWord = s.rdWord := rfl
@[simp] theorem State.answerWrite_pkw : s.answerWrite.pkw = s.pkw := rfl
@[simp] theorem State.answerWrite_cnt : s.answerWrite.cnt = s.cnt := rfl
@[simp] theorem State.answerWrite_lastDecode : s.answerWrite.lastDecode = s.lastDecode := rfl
@[simp] theorem State.answerWrite_lastUw : s.answerWrite.lastUw = s.lastUw := rfl
@[simp] theorem State.answerWrite_stats : s.answerWrite.stats = s.stats := rfl
@[simp] theorem State.answerWrite_specMem : s.answerWrite.specMem = s.specMem := rfl
@[simp] theorem State.answerWrite_snapNf : s.answerWrite.snapNf = s.snapNf := rfl
@[simp] theorem State.answerWrite_demod : s.answerWrite.demod = s.demod := rfl
@[simp] theorem State.answerWrite_framer : s.answerWrite.framer = s.framer := rfl
@[simp] theorem State.answerWrite_reply : s.answerWrite.reply = some { resp := .okay, rdata := none } := rfl
@[simp] theorem State.answerWrite_script : s.answerWrite.script = s.script := rfl

/-! ### setErr -/

@[simp] theorem State.setErr_par (e : ErrFlag) : (s.setErr e).par = s.par := rfl
@[simp] theorem State.setErr_mode (e : ErrFlag) : (s.setErr e).mode = s.mode := rfl
@[simp] theorem State.setErr_err (e : ErrFlag) : (s.setErr e).err = s.err ||| e.mask := rfl
@[simp] theorem State.setErr_cfgErr (e : ErrFlag) : (s.setErr e).cfgErr = s.cfgErr := rfl
@[simp] theorem State.setErr_irq (e : ErrFlag) : (s.setErr e).irq = s.irq := rfl
@[simp] theorem State.setErr_irqEnable (e : ErrFlag) : (s.setErr e).irqEnable = s.irqEnable := rfl
@[simp] theorem State.setErr_shadow (e : ErrFlag) : (s.setErr e).shadow = s.shadow := rfl
@[simp] theorem State.setErr_hAddr (e : ErrFlag) : (s.setErr e).hAddr = s.hAddr := rfl
@[simp] theorem State.setErr_hmem (e : ErrFlag) : (s.setErr e).hmem = s.hmem := rfl
@[simp] theorem State.setErr_powerOns (e : ErrFlag) : (s.setErr e).powerOns = s.powerOns := rfl
@[simp] theorem State.setErr_sampFifo (e : ErrFlag) : (s.setErr e).sampFifo = s.sampFifo := rfl
@[simp] theorem State.setErr_pktFifo (e : ErrFlag) : (s.setErr e).pktFifo = s.pktFifo := rfl
@[simp] theorem State.setErr_rdWord (e : ErrFlag) : (s.setErr e).rdWord = s.rdWord := rfl
@[simp] theorem State.setErr_pkw (e : ErrFlag) : (s.setErr e).pkw = s.pkw := rfl
@[simp] theorem State.setErr_cnt (e : ErrFlag) : (s.setErr e).cnt = s.cnt := rfl
@[simp] theorem State.setErr_lastDecode (e : ErrFlag) : (s.setErr e).lastDecode = s.lastDecode := rfl
@[simp] theorem State.setErr_lastUw (e : ErrFlag) : (s.setErr e).lastUw = s.lastUw := rfl
@[simp] theorem State.setErr_stats (e : ErrFlag) : (s.setErr e).stats = s.stats := rfl
@[simp] theorem State.setErr_specMem (e : ErrFlag) : (s.setErr e).specMem = s.specMem := rfl
@[simp] theorem State.setErr_snapNf (e : ErrFlag) : (s.setErr e).snapNf = s.snapNf := rfl
@[simp] theorem State.setErr_demod (e : ErrFlag) : (s.setErr e).demod = s.demod := rfl
@[simp] theorem State.setErr_framer (e : ErrFlag) : (s.setErr e).framer = s.framer := rfl
@[simp] theorem State.setErr_reply (e : ErrFlag) : (s.setErr e).reply = s.reply := rfl
@[simp] theorem State.setErr_script (e : ErrFlag) : (s.setErr e).script = s.script := rfl

/-! ### clearErr -/

@[simp] theorem State.clearErr_par (w : Word) : (s.clearErr w).par = s.par := rfl
@[simp] theorem State.clearErr_mode (w : Word) : (s.clearErr w).mode = s.mode := rfl
@[simp] theorem State.clearErr_err (w : Word) : (s.clearErr w).err = s.err &&& ~~~ w.extractLsb' 0 9 := rfl
@[simp] theorem State.clearErr_cfgErr (w : Word) : (s.clearErr w).cfgErr = s.cfgErr := rfl
@[simp] theorem State.clearErr_irq (w : Word) : (s.clearErr w).irq = s.irq := rfl
@[simp] theorem State.clearErr_irqEnable (w : Word) : (s.clearErr w).irqEnable = s.irqEnable := rfl
@[simp] theorem State.clearErr_shadow (w : Word) : (s.clearErr w).shadow = s.shadow := rfl
@[simp] theorem State.clearErr_hAddr (w : Word) : (s.clearErr w).hAddr = s.hAddr := rfl
@[simp] theorem State.clearErr_hmem (w : Word) : (s.clearErr w).hmem = s.hmem := rfl
@[simp] theorem State.clearErr_powerOns (w : Word) : (s.clearErr w).powerOns = s.powerOns := rfl
@[simp] theorem State.clearErr_sampFifo (w : Word) : (s.clearErr w).sampFifo = s.sampFifo := rfl
@[simp] theorem State.clearErr_pktFifo (w : Word) : (s.clearErr w).pktFifo = s.pktFifo := rfl
@[simp] theorem State.clearErr_rdWord (w : Word) : (s.clearErr w).rdWord = s.rdWord := rfl
@[simp] theorem State.clearErr_pkw (w : Word) : (s.clearErr w).pkw = s.pkw := rfl
@[simp] theorem State.clearErr_cnt (w : Word) : (s.clearErr w).cnt = s.cnt := rfl
@[simp] theorem State.clearErr_lastDecode (w : Word) : (s.clearErr w).lastDecode = s.lastDecode := rfl
@[simp] theorem State.clearErr_lastUw (w : Word) : (s.clearErr w).lastUw = s.lastUw := rfl
@[simp] theorem State.clearErr_stats (w : Word) : (s.clearErr w).stats = s.stats := rfl
@[simp] theorem State.clearErr_specMem (w : Word) : (s.clearErr w).specMem = s.specMem := rfl
@[simp] theorem State.clearErr_snapNf (w : Word) : (s.clearErr w).snapNf = s.snapNf := rfl
@[simp] theorem State.clearErr_demod (w : Word) : (s.clearErr w).demod = s.demod := rfl
@[simp] theorem State.clearErr_framer (w : Word) : (s.clearErr w).framer = s.framer := rfl
@[simp] theorem State.clearErr_reply (w : Word) : (s.clearErr w).reply = s.reply := rfl
@[simp] theorem State.clearErr_script (w : Word) : (s.clearErr w).script = s.script := rfl

/-! ### clearIrq -/

@[simp] theorem State.clearIrq_par (w : Word) : (s.clearIrq w).par = s.par := rfl
@[simp] theorem State.clearIrq_mode (w : Word) : (s.clearIrq w).mode = s.mode := rfl
@[simp] theorem State.clearIrq_err (w : Word) : (s.clearIrq w).err = s.err := rfl
@[simp] theorem State.clearIrq_cfgErr (w : Word) : (s.clearIrq w).cfgErr = s.cfgErr := rfl
@[simp] theorem State.clearIrq_irqEnable (w : Word) : (s.clearIrq w).irqEnable = s.irqEnable := rfl
@[simp] theorem State.clearIrq_shadow (w : Word) : (s.clearIrq w).shadow = s.shadow := rfl
@[simp] theorem State.clearIrq_hAddr (w : Word) : (s.clearIrq w).hAddr = s.hAddr := rfl
@[simp] theorem State.clearIrq_hmem (w : Word) : (s.clearIrq w).hmem = s.hmem := rfl
@[simp] theorem State.clearIrq_powerOns (w : Word) : (s.clearIrq w).powerOns = s.powerOns := rfl
@[simp] theorem State.clearIrq_sampFifo (w : Word) : (s.clearIrq w).sampFifo = s.sampFifo := rfl
@[simp] theorem State.clearIrq_pktFifo (w : Word) : (s.clearIrq w).pktFifo = s.pktFifo := rfl
@[simp] theorem State.clearIrq_rdWord (w : Word) : (s.clearIrq w).rdWord = s.rdWord := rfl
@[simp] theorem State.clearIrq_pkw (w : Word) : (s.clearIrq w).pkw = s.pkw := rfl
@[simp] theorem State.clearIrq_cnt (w : Word) : (s.clearIrq w).cnt = s.cnt := rfl
@[simp] theorem State.clearIrq_lastDecode (w : Word) : (s.clearIrq w).lastDecode = s.lastDecode := rfl
@[simp] theorem State.clearIrq_lastUw (w : Word) : (s.clearIrq w).lastUw = s.lastUw := rfl
@[simp] theorem State.clearIrq_stats (w : Word) : (s.clearIrq w).stats = s.stats := rfl
@[simp] theorem State.clearIrq_specMem (w : Word) : (s.clearIrq w).specMem = s.specMem := rfl
@[simp] theorem State.clearIrq_snapNf (w : Word) : (s.clearIrq w).snapNf = s.snapNf := rfl
@[simp] theorem State.clearIrq_demod (w : Word) : (s.clearIrq w).demod = s.demod := rfl
@[simp] theorem State.clearIrq_framer (w : Word) : (s.clearIrq w).framer = s.framer := rfl
@[simp] theorem State.clearIrq_reply (w : Word) : (s.clearIrq w).reply = s.reply := rfl
@[simp] theorem State.clearIrq_script (w : Word) : (s.clearIrq w).script = s.script := rfl

/-! ### busError -/

@[simp] theorem State.busError_par (a : Access) : (s.busError a).par = s.par := by cases a <;> rfl
@[simp] theorem State.busError_mode (a : Access) : (s.busError a).mode = s.mode := by cases a <;> rfl
@[simp] theorem State.busError_err (a : Access) : (s.busError a).err = s.err ||| ErrFlag.bus.mask := by cases a <;> rfl
@[simp] theorem State.busError_cfgErr (a : Access) : (s.busError a).cfgErr = s.cfgErr := by cases a <;> rfl
@[simp] theorem State.busError_irq (a : Access) : (s.busError a).irq = s.irq := by cases a <;> rfl
@[simp] theorem State.busError_irqEnable (a : Access) : (s.busError a).irqEnable = s.irqEnable := by cases a <;> rfl
@[simp] theorem State.busError_shadow (a : Access) : (s.busError a).shadow = s.shadow := by cases a <;> rfl
@[simp] theorem State.busError_hAddr (a : Access) : (s.busError a).hAddr = s.hAddr := by cases a <;> rfl
@[simp] theorem State.busError_hmem (a : Access) : (s.busError a).hmem = s.hmem := by cases a <;> rfl
@[simp] theorem State.busError_powerOns (a : Access) : (s.busError a).powerOns = s.powerOns := by cases a <;> rfl
@[simp] theorem State.busError_sampFifo (a : Access) : (s.busError a).sampFifo = s.sampFifo := by cases a <;> rfl
@[simp] theorem State.busError_pktFifo (a : Access) : (s.busError a).pktFifo = s.pktFifo := by cases a <;> rfl
@[simp] theorem State.busError_rdWord (a : Access) : (s.busError a).rdWord = s.rdWord := by cases a <;> rfl
@[simp] theorem State.busError_pkw (a : Access) : (s.busError a).pkw = s.pkw := by cases a <;> rfl
@[simp] theorem State.busError_cnt (a : Access) : (s.busError a).cnt = s.cnt := by cases a <;> rfl
@[simp] theorem State.busError_lastDecode (a : Access) : (s.busError a).lastDecode = s.lastDecode := by cases a <;> rfl
@[simp] theorem State.busError_lastUw (a : Access) : (s.busError a).lastUw = s.lastUw := by cases a <;> rfl
@[simp] theorem State.busError_stats (a : Access) : (s.busError a).stats = s.stats := by cases a <;> rfl
@[simp] theorem State.busError_specMem (a : Access) : (s.busError a).specMem = s.specMem := by cases a <;> rfl
@[simp] theorem State.busError_snapNf (a : Access) : (s.busError a).snapNf = s.snapNf := by cases a <;> rfl
@[simp] theorem State.busError_demod (a : Access) : (s.busError a).demod = s.demod := by cases a <;> rfl
@[simp] theorem State.busError_framer (a : Access) : (s.busError a).framer = s.framer := by cases a <;> rfl
@[simp] theorem State.busError_script (a : Access) : (s.busError a).script = s.script := by cases a <;> rfl

/-! ### flushSamples -/

@[simp] theorem State.flushSamples_par : s.flushSamples.par = s.par := rfl
@[simp] theorem State.flushSamples_mode : s.flushSamples.mode = s.mode := rfl
@[simp] theorem State.flushSamples_err : s.flushSamples.err = s.err := rfl
@[simp] theorem State.flushSamples_cfgErr : s.flushSamples.cfgErr = s.cfgErr := rfl
@[simp] theorem State.flushSamples_irq : s.flushSamples.irq = s.irq := rfl
@[simp] theorem State.flushSamples_irqEnable : s.flushSamples.irqEnable = s.irqEnable := rfl
@[simp] theorem State.flushSamples_shadow : s.flushSamples.shadow = s.shadow := rfl
@[simp] theorem State.flushSamples_hAddr : s.flushSamples.hAddr = s.hAddr := rfl
@[simp] theorem State.flushSamples_hmem : s.flushSamples.hmem = s.hmem := rfl
@[simp] theorem State.flushSamples_powerOns : s.flushSamples.powerOns = s.powerOns := rfl
@[simp] theorem State.flushSamples_sampFifo : s.flushSamples.sampFifo = [] := rfl
@[simp] theorem State.flushSamples_pktFifo : s.flushSamples.pktFifo = s.pktFifo := rfl
@[simp] theorem State.flushSamples_rdWord : s.flushSamples.rdWord = s.rdWord := rfl
@[simp] theorem State.flushSamples_pkw : s.flushSamples.pkw = s.pkw := rfl
@[simp] theorem State.flushSamples_cnt : s.flushSamples.cnt = s.cnt := rfl
@[simp] theorem State.flushSamples_lastDecode : s.flushSamples.lastDecode = s.lastDecode := rfl
@[simp] theorem State.flushSamples_lastUw : s.flushSamples.lastUw = s.lastUw := rfl
@[simp] theorem State.flushSamples_stats : s.flushSamples.stats = s.stats := rfl
@[simp] theorem State.flushSamples_specMem : s.flushSamples.specMem = s.specMem := rfl
@[simp] theorem State.flushSamples_snapNf : s.flushSamples.snapNf = s.snapNf := rfl
@[simp] theorem State.flushSamples_demod : s.flushSamples.demod = s.demod := rfl
@[simp] theorem State.flushSamples_framer : s.flushSamples.framer = s.framer := rfl
@[simp] theorem State.flushSamples_reply : s.flushSamples.reply = s.reply := rfl
@[simp] theorem State.flushSamples_script : s.flushSamples.script = s.script := rfl

/-! ### flushPackets -/

@[simp] theorem State.flushPackets_par : s.flushPackets.par = s.par := rfl
@[simp] theorem State.flushPackets_mode : s.flushPackets.mode = s.mode := rfl
@[simp] theorem State.flushPackets_err : s.flushPackets.err = s.err := rfl
@[simp] theorem State.flushPackets_cfgErr : s.flushPackets.cfgErr = s.cfgErr := rfl
@[simp] theorem State.flushPackets_irq : s.flushPackets.irq = s.irq := rfl
@[simp] theorem State.flushPackets_irqEnable : s.flushPackets.irqEnable = s.irqEnable := rfl
@[simp] theorem State.flushPackets_shadow : s.flushPackets.shadow = s.shadow := rfl
@[simp] theorem State.flushPackets_hAddr : s.flushPackets.hAddr = s.hAddr := rfl
@[simp] theorem State.flushPackets_hmem : s.flushPackets.hmem = s.hmem := rfl
@[simp] theorem State.flushPackets_powerOns : s.flushPackets.powerOns = s.powerOns := rfl
@[simp] theorem State.flushPackets_sampFifo : s.flushPackets.sampFifo = s.sampFifo := rfl
@[simp] theorem State.flushPackets_pktFifo : s.flushPackets.pktFifo = [] := rfl
@[simp] theorem State.flushPackets_rdWord : s.flushPackets.rdWord = 0 := rfl
@[simp] theorem State.flushPackets_pkw : s.flushPackets.pkw = s.pkw := rfl
@[simp] theorem State.flushPackets_cnt : s.flushPackets.cnt = s.cnt := rfl
@[simp] theorem State.flushPackets_lastDecode : s.flushPackets.lastDecode = s.lastDecode := rfl
@[simp] theorem State.flushPackets_lastUw : s.flushPackets.lastUw = s.lastUw := rfl
@[simp] theorem State.flushPackets_stats : s.flushPackets.stats = s.stats := rfl
@[simp] theorem State.flushPackets_specMem : s.flushPackets.specMem = s.specMem := rfl
@[simp] theorem State.flushPackets_snapNf : s.flushPackets.snapNf = s.snapNf := rfl
@[simp] theorem State.flushPackets_demod : s.flushPackets.demod = s.demod := rfl
@[simp] theorem State.flushPackets_framer : s.flushPackets.framer = s.framer := rfl
@[simp] theorem State.flushPackets_reply : s.flushPackets.reply = s.reply := rfl
@[simp] theorem State.flushPackets_script : s.flushPackets.script = s.script := rfl

/-! ### pushSamples -/

@[simp] theorem State.pushSamples_par (xs : List Sample) : (s.pushSamples xs).par = s.par := rfl
@[simp] theorem State.pushSamples_mode (xs : List Sample) : (s.pushSamples xs).mode = s.mode := rfl
@[simp] theorem State.pushSamples_err (xs : List Sample) : (s.pushSamples xs).err = s.err := rfl
@[simp] theorem State.pushSamples_cfgErr (xs : List Sample) : (s.pushSamples xs).cfgErr = s.cfgErr := rfl
@[simp] theorem State.pushSamples_irq (xs : List Sample) : (s.pushSamples xs).irq = s.irq := rfl
@[simp] theorem State.pushSamples_irqEnable (xs : List Sample) : (s.pushSamples xs).irqEnable = s.irqEnable := rfl
@[simp] theorem State.pushSamples_shadow (xs : List Sample) : (s.pushSamples xs).shadow = s.shadow := rfl
@[simp] theorem State.pushSamples_hAddr (xs : List Sample) : (s.pushSamples xs).hAddr = s.hAddr := rfl
@[simp] theorem State.pushSamples_hmem (xs : List Sample) : (s.pushSamples xs).hmem = s.hmem := rfl
@[simp] theorem State.pushSamples_powerOns (xs : List Sample) : (s.pushSamples xs).powerOns = s.powerOns := rfl
@[simp] theorem State.pushSamples_sampFifo (xs : List Sample) : (s.pushSamples xs).sampFifo = s.sampFifo ++ xs := rfl
@[simp] theorem State.pushSamples_pktFifo (xs : List Sample) : (s.pushSamples xs).pktFifo = s.pktFifo := rfl
@[simp] theorem State.pushSamples_rdWord (xs : List Sample) : (s.pushSamples xs).rdWord = s.rdWord := rfl
@[simp] theorem State.pushSamples_pkw (xs : List Sample) : (s.pushSamples xs).pkw = s.pkw := rfl
@[simp] theorem State.pushSamples_cnt (xs : List Sample) : (s.pushSamples xs).cnt = s.cnt := rfl
@[simp] theorem State.pushSamples_lastDecode (xs : List Sample) : (s.pushSamples xs).lastDecode = s.lastDecode := rfl
@[simp] theorem State.pushSamples_lastUw (xs : List Sample) : (s.pushSamples xs).lastUw = s.lastUw := rfl
@[simp] theorem State.pushSamples_stats (xs : List Sample) : (s.pushSamples xs).stats = s.stats := rfl
@[simp] theorem State.pushSamples_specMem (xs : List Sample) : (s.pushSamples xs).specMem = s.specMem := rfl
@[simp] theorem State.pushSamples_snapNf (xs : List Sample) : (s.pushSamples xs).snapNf = s.snapNf := rfl
@[simp] theorem State.pushSamples_demod (xs : List Sample) : (s.pushSamples xs).demod = s.demod := rfl
@[simp] theorem State.pushSamples_framer (xs : List Sample) : (s.pushSamples xs).framer = s.framer := rfl
@[simp] theorem State.pushSamples_reply (xs : List Sample) : (s.pushSamples xs).reply = s.reply := rfl
@[simp] theorem State.pushSamples_script (xs : List Sample) : (s.pushSamples xs).script = s.script := rfl

/-! ### pushPacket -/

@[simp] theorem State.pushPacket_par (pkt : List Byte) : (s.pushPacket pkt).par = s.par := rfl
@[simp] theorem State.pushPacket_mode (pkt : List Byte) : (s.pushPacket pkt).mode = s.mode := rfl
@[simp] theorem State.pushPacket_err (pkt : List Byte) : (s.pushPacket pkt).err = s.err := rfl
@[simp] theorem State.pushPacket_cfgErr (pkt : List Byte) : (s.pushPacket pkt).cfgErr = s.cfgErr := rfl
@[simp] theorem State.pushPacket_irq (pkt : List Byte) : (s.pushPacket pkt).irq = s.irq := rfl
@[simp] theorem State.pushPacket_irqEnable (pkt : List Byte) : (s.pushPacket pkt).irqEnable = s.irqEnable := rfl
@[simp] theorem State.pushPacket_shadow (pkt : List Byte) : (s.pushPacket pkt).shadow = s.shadow := rfl
@[simp] theorem State.pushPacket_hAddr (pkt : List Byte) : (s.pushPacket pkt).hAddr = s.hAddr := rfl
@[simp] theorem State.pushPacket_hmem (pkt : List Byte) : (s.pushPacket pkt).hmem = s.hmem := rfl
@[simp] theorem State.pushPacket_powerOns (pkt : List Byte) : (s.pushPacket pkt).powerOns = s.powerOns := rfl
@[simp] theorem State.pushPacket_sampFifo (pkt : List Byte) : (s.pushPacket pkt).sampFifo = s.sampFifo := rfl
@[simp] theorem State.pushPacket_pktFifo (pkt : List Byte) : (s.pushPacket pkt).pktFifo = s.pktFifo ++ [pkt] := rfl
@[simp] theorem State.pushPacket_rdWord (pkt : List Byte) : (s.pushPacket pkt).rdWord = s.rdWord := rfl
@[simp] theorem State.pushPacket_pkw (pkt : List Byte) : (s.pushPacket pkt).pkw = s.pkw := rfl
@[simp] theorem State.pushPacket_cnt (pkt : List Byte) : (s.pushPacket pkt).cnt = s.cnt := rfl
@[simp] theorem State.pushPacket_lastDecode (pkt : List Byte) : (s.pushPacket pkt).lastDecode = s.lastDecode := rfl
@[simp] theorem State.pushPacket_lastUw (pkt : List Byte) : (s.pushPacket pkt).lastUw = s.lastUw := rfl
@[simp] theorem State.pushPacket_stats (pkt : List Byte) : (s.pushPacket pkt).stats = s.stats := rfl
@[simp] theorem State.pushPacket_specMem (pkt : List Byte) : (s.pushPacket pkt).specMem = s.specMem := rfl
@[simp] theorem State.pushPacket_snapNf (pkt : List Byte) : (s.pushPacket pkt).snapNf = s.snapNf := rfl
@[simp] theorem State.pushPacket_demod (pkt : List Byte) : (s.pushPacket pkt).demod = s.demod := rfl
@[simp] theorem State.pushPacket_framer (pkt : List Byte) : (s.pushPacket pkt).framer = s.framer := rfl
@[simp] theorem State.pushPacket_reply (pkt : List Byte) : (s.pushPacket pkt).reply = s.reply := rfl
@[simp] theorem State.pushPacket_script (pkt : List Byte) : (s.pushPacket pkt).script = s.script := rfl

/-! ### advancePacket -/

@[simp] theorem State.advancePacket_par : s.advancePacket.par = s.par := by unfold State.advancePacket; split <;> rfl
@[simp] theorem State.advancePacket_mode : s.advancePacket.mode = s.mode := by unfold State.advancePacket; split <;> rfl
@[simp] theorem State.advancePacket_err : s.advancePacket.err = s.err := by unfold State.advancePacket; split <;> rfl
@[simp] theorem State.advancePacket_cfgErr : s.advancePacket.cfgErr = s.cfgErr := by unfold State.advancePacket; split <;> rfl
@[simp] theorem State.advancePacket_irq : s.advancePacket.irq = s.irq := by unfold State.advancePacket; split <;> rfl
@[simp] theorem State.advancePacket_irqEnable : s.advancePacket.irqEnable = s.irqEnable := by unfold State.advancePacket; split <;> rfl
@[simp] theorem State.advancePacket_shadow : s.advancePacket.shadow = s.shadow := by unfold State.advancePacket; split <;> rfl
@[simp] theorem State.advancePacket_hAddr : s.advancePacket.hAddr = s.hAddr := by unfold State.advancePacket; split <;> rfl
@[simp] theorem State.advancePacket_hmem : s.advancePacket.hmem = s.hmem := by unfold State.advancePacket; split <;> rfl
@[simp] theorem State.advancePacket_powerOns : s.advancePacket.powerOns = s.powerOns := by unfold State.advancePacket; split <;> rfl
@[simp] theorem State.advancePacket_sampFifo : s.advancePacket.sampFifo = s.sampFifo := by unfold State.advancePacket; split <;> rfl
@[simp] theorem State.advancePacket_pkw : s.advancePacket.pkw = s.pkw := by unfold State.advancePacket; split <;> rfl
@[simp] theorem State.advancePacket_cnt : s.advancePacket.cnt = s.cnt := by unfold State.advancePacket; split <;> rfl
@[simp] theorem State.advancePacket_lastDecode : s.advancePacket.lastDecode = s.lastDecode := by unfold State.advancePacket; split <;> rfl
@[simp] theorem State.advancePacket_lastUw : s.advancePacket.lastUw = s.lastUw := by unfold State.advancePacket; split <;> rfl
@[simp] theorem State.advancePacket_stats : s.advancePacket.stats = s.stats := by unfold State.advancePacket; split <;> rfl
@[simp] theorem State.advancePacket_specMem : s.advancePacket.specMem = s.specMem := by unfold State.advancePacket; split <;> rfl
@[simp] theorem State.advancePacket_snapNf : s.advancePacket.snapNf = s.snapNf := by unfold State.advancePacket; split <;> rfl
@[simp] theorem State.advancePacket_demod : s.advancePacket.demod = s.demod := by unfold State.advancePacket; split <;> rfl
@[simp] theorem State.advancePacket_framer : s.advancePacket.framer = s.framer := by unfold State.advancePacket; split <;> rfl
@[simp] theorem State.advancePacket_reply : s.advancePacket.reply = s.reply := by unfold State.advancePacket; split <;> rfl
@[simp] theorem State.advancePacket_script : s.advancePacket.script = s.script := by unfold State.advancePacket; split <;> rfl

/-! ### initDemod -/

@[simp] theorem State.initDemod_par (c : CfgRegs) : (s.initDemod c).par = s.par := rfl
@[simp] theorem State.initDemod_mode (c : CfgRegs) : (s.initDemod c).mode = s.mode := rfl
@[simp] theorem State.initDemod_err (c : CfgRegs) : (s.initDemod c).err = s.err := rfl
@[simp] theorem State.initDemod_cfgErr (c : CfgRegs) : (s.initDemod c).cfgErr = s.cfgErr := rfl
@[simp] theorem State.initDemod_irq (c : CfgRegs) : (s.initDemod c).irq = s.irq := rfl
@[simp] theorem State.initDemod_irqEnable (c : CfgRegs) : (s.initDemod c).irqEnable = s.irqEnable := rfl
@[simp] theorem State.initDemod_shadow (c : CfgRegs) : (s.initDemod c).shadow = s.shadow := rfl
@[simp] theorem State.initDemod_hAddr (c : CfgRegs) : (s.initDemod c).hAddr = s.hAddr := rfl
@[simp] theorem State.initDemod_hmem (c : CfgRegs) : (s.initDemod c).hmem = s.hmem := rfl
@[simp] theorem State.initDemod_powerOns (c : CfgRegs) : (s.initDemod c).powerOns = s.powerOns := rfl
@[simp] theorem State.initDemod_sampFifo (c : CfgRegs) : (s.initDemod c).sampFifo = s.sampFifo := rfl
@[simp] theorem State.initDemod_pktFifo (c : CfgRegs) : (s.initDemod c).pktFifo = s.pktFifo := rfl
@[simp] theorem State.initDemod_rdWord (c : CfgRegs) : (s.initDemod c).rdWord = s.rdWord := rfl
@[simp] theorem State.initDemod_pkw (c : CfgRegs) : (s.initDemod c).pkw = s.pkw := rfl
@[simp] theorem State.initDemod_cnt (c : CfgRegs) : (s.initDemod c).cnt = s.cnt := rfl
@[simp] theorem State.initDemod_lastDecode (c : CfgRegs) : (s.initDemod c).lastDecode = s.lastDecode := rfl
@[simp] theorem State.initDemod_lastUw (c : CfgRegs) : (s.initDemod c).lastUw = s.lastUw := rfl
@[simp] theorem State.initDemod_stats (c : CfgRegs) : (s.initDemod c).stats = s.stats := rfl
@[simp] theorem State.initDemod_specMem (c : CfgRegs) : (s.initDemod c).specMem = s.specMem := rfl
@[simp] theorem State.initDemod_snapNf (c : CfgRegs) : (s.initDemod c).snapNf = s.snapNf := rfl
@[simp] theorem State.initDemod_demod (c : CfgRegs) : (s.initDemod c).demod = demodInit c.os := rfl
@[simp] theorem State.initDemod_framer (c : CfgRegs) : (s.initDemod c).framer = s.framer := rfl
@[simp] theorem State.initDemod_reply (c : CfgRegs) : (s.initDemod c).reply = s.reply := rfl
@[simp] theorem State.initDemod_script (c : CfgRegs) : (s.initDemod c).script = s.script := rfl

/-! ### initFramer -/

@[simp] theorem State.initFramer_par : s.initFramer.par = s.par := rfl
@[simp] theorem State.initFramer_mode : s.initFramer.mode = s.mode := rfl
@[simp] theorem State.initFramer_err : s.initFramer.err = s.err := rfl
@[simp] theorem State.initFramer_cfgErr : s.initFramer.cfgErr = s.cfgErr := rfl
@[simp] theorem State.initFramer_irq : s.initFramer.irq = s.irq := rfl
@[simp] theorem State.initFramer_irqEnable : s.initFramer.irqEnable = s.irqEnable := rfl
@[simp] theorem State.initFramer_shadow : s.initFramer.shadow = s.shadow := rfl
@[simp] theorem State.initFramer_hAddr : s.initFramer.hAddr = s.hAddr := rfl
@[simp] theorem State.initFramer_hmem : s.initFramer.hmem = s.hmem := rfl
@[simp] theorem State.initFramer_powerOns : s.initFramer.powerOns = s.powerOns := rfl
@[simp] theorem State.initFramer_sampFifo : s.initFramer.sampFifo = s.sampFifo := rfl
@[simp] theorem State.initFramer_pktFifo : s.initFramer.pktFifo = s.pktFifo := rfl
@[simp] theorem State.initFramer_rdWord : s.initFramer.rdWord = s.rdWord := rfl
@[simp] theorem State.initFramer_pkw : s.initFramer.pkw = s.pkw := rfl
@[simp] theorem State.initFramer_cnt : s.initFramer.cnt = s.cnt := rfl
@[simp] theorem State.initFramer_lastDecode : s.initFramer.lastDecode = s.lastDecode := rfl
@[simp] theorem State.initFramer_lastUw : s.initFramer.lastUw = s.lastUw := rfl
@[simp] theorem State.initFramer_stats : s.initFramer.stats = s.stats := rfl
@[simp] theorem State.initFramer_specMem : s.initFramer.specMem = s.specMem := rfl
@[simp] theorem State.initFramer_snapNf : s.initFramer.snapNf = s.snapNf := rfl
@[simp] theorem State.initFramer_demod : s.initFramer.demod = s.demod := rfl
@[simp] theorem State.initFramer_framer : s.initFramer.framer = framerInit := rfl
@[simp] theorem State.initFramer_reply : s.initFramer.reply = s.reply := rfl
@[simp] theorem State.initFramer_script : s.initFramer.script = s.script := rfl

/-! ### setMode -/

@[simp] theorem State.setMode_par (m : Mode) : (s.setMode m).par = s.par := rfl
@[simp] theorem State.setMode_mode (m : Mode) : (s.setMode m).mode = m := rfl
@[simp] theorem State.setMode_err (m : Mode) : (s.setMode m).err = s.err := rfl
@[simp] theorem State.setMode_cfgErr (m : Mode) : (s.setMode m).cfgErr = s.cfgErr := rfl
@[simp] theorem State.setMode_irq (m : Mode) : (s.setMode m).irq = s.irq := rfl
@[simp] theorem State.setMode_irqEnable (m : Mode) : (s.setMode m).irqEnable = s.irqEnable := rfl
@[simp] theorem State.setMode_shadow (m : Mode) : (s.setMode m).shadow = s.shadow := rfl
@[simp] theorem State.setMode_hAddr (m : Mode) : (s.setMode m).hAddr = s.hAddr := rfl
@[simp] theorem State.setMode_hmem (m : Mode) : (s.setMode m).hmem = s.hmem := rfl
@[simp] theorem State.setMode_powerOns (m : Mode) : (s.setMode m).powerOns = s.powerOns := rfl
@[simp] theorem State.setMode_sampFifo (m : Mode) : (s.setMode m).sampFifo = s.sampFifo := rfl
@[simp] theorem State.setMode_pktFifo (m : Mode) : (s.setMode m).pktFifo = s.pktFifo := rfl
@[simp] theorem State.setMode_rdWord (m : Mode) : (s.setMode m).rdWord = s.rdWord := rfl
@[simp] theorem State.setMode_pkw (m : Mode) : (s.setMode m).pkw = s.pkw := rfl
@[simp] theorem State.setMode_cnt (m : Mode) : (s.setMode m).cnt = s.cnt := rfl
@[simp] theorem State.setMode_lastDecode (m : Mode) : (s.setMode m).lastDecode = s.lastDecode := rfl
@[simp] theorem State.setMode_lastUw (m : Mode) : (s.setMode m).lastUw = s.lastUw := rfl
@[simp] theorem State.setMode_stats (m : Mode) : (s.setMode m).stats = s.stats := rfl
@[simp] theorem State.setMode_specMem (m : Mode) : (s.setMode m).specMem = s.specMem := rfl
@[simp] theorem State.setMode_snapNf (m : Mode) : (s.setMode m).snapNf = s.snapNf := rfl
@[simp] theorem State.setMode_demod (m : Mode) : (s.setMode m).demod = s.demod := rfl
@[simp] theorem State.setMode_framer (m : Mode) : (s.setMode m).framer = s.framer := rfl
@[simp] theorem State.setMode_reply (m : Mode) : (s.setMode m).reply = s.reply := rfl
@[simp] theorem State.setMode_script (m : Mode) : (s.setMode m).script = s.script := rfl

/-! ### clearCounters -/

@[simp] theorem State.clearCounters_par : s.clearCounters.par = s.par := rfl
@[simp] theorem State.clearCounters_mode : s.clearCounters.mode = s.mode := rfl
@[simp] theorem State.clearCounters_err : s.clearCounters.err = s.err := rfl
@[simp] theorem State.clearCounters_cfgErr : s.clearCounters.cfgErr = s.cfgErr := rfl
@[simp] theorem State.clearCounters_irq : s.clearCounters.irq = s.irq := rfl
@[simp] theorem State.clearCounters_irqEnable : s.clearCounters.irqEnable = s.irqEnable := rfl
@[simp] theorem State.clearCounters_shadow : s.clearCounters.shadow = s.shadow := rfl
@[simp] theorem State.clearCounters_hAddr : s.clearCounters.hAddr = s.hAddr := rfl
@[simp] theorem State.clearCounters_hmem : s.clearCounters.hmem = s.hmem := rfl
@[simp] theorem State.clearCounters_powerOns : s.clearCounters.powerOns = s.powerOns := rfl
@[simp] theorem State.clearCounters_sampFifo : s.clearCounters.sampFifo = s.sampFifo := rfl
@[simp] theorem State.clearCounters_pktFifo : s.clearCounters.pktFifo = s.pktFifo := rfl
@[simp] theorem State.clearCounters_rdWord : s.clearCounters.rdWord = s.rdWord := rfl
@[simp] theorem State.clearCounters_pkw : s.clearCounters.pkw = s.pkw := rfl
@[simp] theorem State.clearCounters_cnt : s.clearCounters.cnt = Counters.zero := rfl
@[simp] theorem State.clearCounters_lastDecode : s.clearCounters.lastDecode = LastDecode.zero := rfl
@[simp] theorem State.clearCounters_lastUw : s.clearCounters.lastUw = LastUw.zero := rfl
@[simp] theorem State.clearCounters_stats : s.clearCounters.stats = s.stats := rfl
@[simp] theorem State.clearCounters_specMem : s.clearCounters.specMem = s.specMem := rfl
@[simp] theorem State.clearCounters_snapNf : s.clearCounters.snapNf = s.snapNf := rfl
@[simp] theorem State.clearCounters_demod : s.clearCounters.demod = s.demod := rfl
@[simp] theorem State.clearCounters_framer : s.clearCounters.framer = s.framer := rfl
@[simp] theorem State.clearCounters_reply : s.clearCounters.reply = s.reply := rfl
@[simp] theorem State.clearCounters_script : s.clearCounters.script = s.script := rfl

/-! ### writeShadow -/

@[simp] theorem State.writeShadow_par (c : CfgRegs) : (s.writeShadow c).par = s.par := rfl
@[simp] theorem State.writeShadow_mode (c : CfgRegs) : (s.writeShadow c).mode = s.mode := rfl
@[simp] theorem State.writeShadow_err (c : CfgRegs) : (s.writeShadow c).err = s.err := rfl
@[simp] theorem State.writeShadow_cfgErr (c : CfgRegs) : (s.writeShadow c).cfgErr = s.cfgErr := rfl
@[simp] theorem State.writeShadow_irq (c : CfgRegs) : (s.writeShadow c).irq = s.irq := rfl
@[simp] theorem State.writeShadow_irqEnable (c : CfgRegs) : (s.writeShadow c).irqEnable = s.irqEnable := rfl
@[simp] theorem State.writeShadow_shadow (c : CfgRegs) : (s.writeShadow c).shadow = c := rfl
@[simp] theorem State.writeShadow_hAddr (c : CfgRegs) : (s.writeShadow c).hAddr = s.hAddr := rfl
@[simp] theorem State.writeShadow_hmem (c : CfgRegs) : (s.writeShadow c).hmem = s.hmem := rfl
@[simp] theorem State.writeShadow_powerOns (c : CfgRegs) : (s.writeShadow c).powerOns = s.powerOns := rfl
@[simp] theorem State.writeShadow_sampFifo (c : CfgRegs) : (s.writeShadow c).sampFifo = s.sampFifo := rfl
@[simp] theorem State.writeShadow_pktFifo (c : CfgRegs) : (s.writeShadow c).pktFifo = s.pktFifo := rfl
@[simp] theorem State.writeShadow_rdWord (c : CfgRegs) : (s.writeShadow c).rdWord = s.rdWord := rfl
@[simp] theorem State.writeShadow_pkw (c : CfgRegs) : (s.writeShadow c).pkw = s.pkw := rfl
@[simp] theorem State.writeShadow_cnt (c : CfgRegs) : (s.writeShadow c).cnt = s.cnt := rfl
@[simp] theorem State.writeShadow_lastDecode (c : CfgRegs) : (s.writeShadow c).lastDecode = s.lastDecode := rfl
@[simp] theorem State.writeShadow_lastUw (c : CfgRegs) : (s.writeShadow c).lastUw = s.lastUw := rfl
@[simp] theorem State.writeShadow_stats (c : CfgRegs) : (s.writeShadow c).stats = s.stats := rfl
@[simp] theorem State.writeShadow_specMem (c : CfgRegs) : (s.writeShadow c).specMem = s.specMem := rfl
@[simp] theorem State.writeShadow_snapNf (c : CfgRegs) : (s.writeShadow c).snapNf = s.snapNf := rfl
@[simp] theorem State.writeShadow_demod (c : CfgRegs) : (s.writeShadow c).demod = s.demod := rfl
@[simp] theorem State.writeShadow_framer (c : CfgRegs) : (s.writeShadow c).framer = s.framer := rfl
@[simp] theorem State.writeShadow_reply (c : CfgRegs) : (s.writeShadow c).reply = s.reply := rfl
@[simp] theorem State.writeShadow_script (c : CfgRegs) : (s.writeShadow c).script = s.script := rfl

/-! ### storeH -/

@[simp] theorem State.storeH_par (w : Word) : (s.storeH w).par = s.par := rfl
@[simp] theorem State.storeH_mode (w : Word) : (s.storeH w).mode = s.mode.afterHWrite := rfl
@[simp] theorem State.storeH_err (w : Word) : (s.storeH w).err = s.err := rfl
@[simp] theorem State.storeH_cfgErr (w : Word) : (s.storeH w).cfgErr = s.cfgErr := rfl
@[simp] theorem State.storeH_irq (w : Word) : (s.storeH w).irq = s.irq := rfl
@[simp] theorem State.storeH_irqEnable (w : Word) : (s.storeH w).irqEnable = s.irqEnable := rfl
@[simp] theorem State.storeH_shadow (w : Word) : (s.storeH w).shadow = s.shadow := rfl
@[simp] theorem State.storeH_hAddr (w : Word) : (s.storeH w).hAddr = s.hAddr + 1 := rfl
@[simp] theorem State.storeH_hmem (w : Word) : (s.storeH w).hmem = s.hmem.store s.hAddr.toNat w := rfl
@[simp] theorem State.storeH_powerOns (w : Word) : (s.storeH w).powerOns = s.powerOns := rfl
@[simp] theorem State.storeH_sampFifo (w : Word) : (s.storeH w).sampFifo = s.sampFifo := rfl
@[simp] theorem State.storeH_pktFifo (w : Word) : (s.storeH w).pktFifo = s.pktFifo := rfl
@[simp] theorem State.storeH_rdWord (w : Word) : (s.storeH w).rdWord = s.rdWord := rfl
@[simp] theorem State.storeH_pkw (w : Word) : (s.storeH w).pkw = s.pkw := rfl
@[simp] theorem State.storeH_cnt (w : Word) : (s.storeH w).cnt = s.cnt := rfl
@[simp] theorem State.storeH_lastDecode (w : Word) : (s.storeH w).lastDecode = s.lastDecode := rfl
@[simp] theorem State.storeH_lastUw (w : Word) : (s.storeH w).lastUw = s.lastUw := rfl
@[simp] theorem State.storeH_stats (w : Word) : (s.storeH w).stats = s.stats := rfl
@[simp] theorem State.storeH_specMem (w : Word) : (s.storeH w).specMem = s.specMem := rfl
@[simp] theorem State.storeH_snapNf (w : Word) : (s.storeH w).snapNf = s.snapNf := rfl
@[simp] theorem State.storeH_demod (w : Word) : (s.storeH w).demod = s.demod := rfl
@[simp] theorem State.storeH_framer (w : Word) : (s.storeH w).framer = s.framer := rfl
@[simp] theorem State.storeH_reply (w : Word) : (s.storeH w).reply = s.reply := rfl
@[simp] theorem State.storeH_script (w : Word) : (s.storeH w).script = s.script := rfl

/-! ### raiseSyncChg -/

@[simp] theorem State.raiseSyncChg_par : s.raiseSyncChg.par = s.par := rfl
@[simp] theorem State.raiseSyncChg_mode : s.raiseSyncChg.mode = s.mode := rfl
@[simp] theorem State.raiseSyncChg_err : s.raiseSyncChg.err = s.err := rfl
@[simp] theorem State.raiseSyncChg_cfgErr : s.raiseSyncChg.cfgErr = s.cfgErr := rfl
@[simp] theorem State.raiseSyncChg_irq : s.raiseSyncChg.irq = { s.irq with syncChg := true } := rfl
@[simp] theorem State.raiseSyncChg_irqEnable : s.raiseSyncChg.irqEnable = s.irqEnable := rfl
@[simp] theorem State.raiseSyncChg_shadow : s.raiseSyncChg.shadow = s.shadow := rfl
@[simp] theorem State.raiseSyncChg_hAddr : s.raiseSyncChg.hAddr = s.hAddr := rfl
@[simp] theorem State.raiseSyncChg_hmem : s.raiseSyncChg.hmem = s.hmem := rfl
@[simp] theorem State.raiseSyncChg_powerOns : s.raiseSyncChg.powerOns = s.powerOns := rfl
@[simp] theorem State.raiseSyncChg_sampFifo : s.raiseSyncChg.sampFifo = s.sampFifo := rfl
@[simp] theorem State.raiseSyncChg_pktFifo : s.raiseSyncChg.pktFifo = s.pktFifo := rfl
@[simp] theorem State.raiseSyncChg_rdWord : s.raiseSyncChg.rdWord = s.rdWord := rfl
@[simp] theorem State.raiseSyncChg_pkw : s.raiseSyncChg.pkw = s.pkw := rfl
@[simp] theorem State.raiseSyncChg_cnt : s.raiseSyncChg.cnt = s.cnt := rfl
@[simp] theorem State.raiseSyncChg_lastDecode : s.raiseSyncChg.lastDecode = s.lastDecode := rfl
@[simp] theorem State.raiseSyncChg_lastUw : s.raiseSyncChg.lastUw = s.lastUw := rfl
@[simp] theorem State.raiseSyncChg_stats : s.raiseSyncChg.stats = s.stats := rfl
@[simp] theorem State.raiseSyncChg_specMem : s.raiseSyncChg.specMem = s.specMem := rfl
@[simp] theorem State.raiseSyncChg_snapNf : s.raiseSyncChg.snapNf = s.snapNf := rfl
@[simp] theorem State.raiseSyncChg_demod : s.raiseSyncChg.demod = s.demod := rfl
@[simp] theorem State.raiseSyncChg_framer : s.raiseSyncChg.framer = s.framer := rfl
@[simp] theorem State.raiseSyncChg_reply : s.raiseSyncChg.reply = s.reply := rfl
@[simp] theorem State.raiseSyncChg_script : s.raiseSyncChg.script = s.script := rfl

/-! ### recordUw -/

@[simp] theorem State.recordUw_par (d : Nat) : (s.recordUw d).par = s.par := rfl
@[simp] theorem State.recordUw_mode (d : Nat) : (s.recordUw d).mode = s.mode := rfl
@[simp] theorem State.recordUw_err (d : Nat) : (s.recordUw d).err = s.err := rfl
@[simp] theorem State.recordUw_cfgErr (d : Nat) : (s.recordUw d).cfgErr = s.cfgErr := rfl
@[simp] theorem State.recordUw_irq (d : Nat) : (s.recordUw d).irq = s.irq := rfl
@[simp] theorem State.recordUw_irqEnable (d : Nat) : (s.recordUw d).irqEnable = s.irqEnable := rfl
@[simp] theorem State.recordUw_shadow (d : Nat) : (s.recordUw d).shadow = s.shadow := rfl
@[simp] theorem State.recordUw_hAddr (d : Nat) : (s.recordUw d).hAddr = s.hAddr := rfl
@[simp] theorem State.recordUw_hmem (d : Nat) : (s.recordUw d).hmem = s.hmem := rfl
@[simp] theorem State.recordUw_powerOns (d : Nat) : (s.recordUw d).powerOns = s.powerOns := rfl
@[simp] theorem State.recordUw_sampFifo (d : Nat) : (s.recordUw d).sampFifo = s.sampFifo := rfl
@[simp] theorem State.recordUw_pktFifo (d : Nat) : (s.recordUw d).pktFifo = s.pktFifo := rfl
@[simp] theorem State.recordUw_rdWord (d : Nat) : (s.recordUw d).rdWord = s.rdWord := rfl
@[simp] theorem State.recordUw_pkw (d : Nat) : (s.recordUw d).pkw = s.pkw := rfl
@[simp] theorem State.recordUw_cnt (d : Nat) : (s.recordUw d).cnt = s.cnt := rfl
@[simp] theorem State.recordUw_lastDecode (d : Nat) : (s.recordUw d).lastDecode = s.lastDecode := rfl
@[simp] theorem State.recordUw_lastUw (d : Nat) : (s.recordUw d).lastUw = { dist := BitVec.ofNat 7 d, valid := true } := rfl
@[simp] theorem State.recordUw_stats (d : Nat) : (s.recordUw d).stats = s.stats := rfl
@[simp] theorem State.recordUw_specMem (d : Nat) : (s.recordUw d).specMem = s.specMem := rfl
@[simp] theorem State.recordUw_snapNf (d : Nat) : (s.recordUw d).snapNf = s.snapNf := rfl
@[simp] theorem State.recordUw_demod (d : Nat) : (s.recordUw d).demod = s.demod := rfl
@[simp] theorem State.recordUw_framer (d : Nat) : (s.recordUw d).framer = s.framer := rfl
@[simp] theorem State.recordUw_reply (d : Nat) : (s.recordUw d).reply = s.reply := rfl
@[simp] theorem State.recordUw_script (d : Nat) : (s.recordUw d).script = s.script := rfl

/-! ### toCodeword -/

@[simp] theorem State.toCodeword_par (n : Nat) : (s.toCodeword n).par = s.par := rfl
@[simp] theorem State.toCodeword_mode (n : Nat) : (s.toCodeword n).mode = s.mode := rfl
@[simp] theorem State.toCodeword_err (n : Nat) : (s.toCodeword n).err = s.err := rfl
@[simp] theorem State.toCodeword_cfgErr (n : Nat) : (s.toCodeword n).cfgErr = s.cfgErr := rfl
@[simp] theorem State.toCodeword_irq (n : Nat) : (s.toCodeword n).irq = s.irq := rfl
@[simp] theorem State.toCodeword_irqEnable (n : Nat) : (s.toCodeword n).irqEnable = s.irqEnable := rfl
@[simp] theorem State.toCodeword_shadow (n : Nat) : (s.toCodeword n).shadow = s.shadow := rfl
@[simp] theorem State.toCodeword_hAddr (n : Nat) : (s.toCodeword n).hAddr = s.hAddr := rfl
@[simp] theorem State.toCodeword_hmem (n : Nat) : (s.toCodeword n).hmem = s.hmem := rfl
@[simp] theorem State.toCodeword_powerOns (n : Nat) : (s.toCodeword n).powerOns = s.powerOns := rfl
@[simp] theorem State.toCodeword_sampFifo (n : Nat) : (s.toCodeword n).sampFifo = s.sampFifo := rfl
@[simp] theorem State.toCodeword_pktFifo (n : Nat) : (s.toCodeword n).pktFifo = s.pktFifo := rfl
@[simp] theorem State.toCodeword_rdWord (n : Nat) : (s.toCodeword n).rdWord = s.rdWord := rfl
@[simp] theorem State.toCodeword_pkw (n : Nat) : (s.toCodeword n).pkw = s.pkw := rfl
@[simp] theorem State.toCodeword_cnt (n : Nat) : (s.toCodeword n).cnt = s.cnt := rfl
@[simp] theorem State.toCodeword_lastDecode (n : Nat) : (s.toCodeword n).lastDecode = s.lastDecode := rfl
@[simp] theorem State.toCodeword_lastUw (n : Nat) : (s.toCodeword n).lastUw = s.lastUw := rfl
@[simp] theorem State.toCodeword_stats (n : Nat) : (s.toCodeword n).stats = s.stats := rfl
@[simp] theorem State.toCodeword_specMem (n : Nat) : (s.toCodeword n).specMem = s.specMem := rfl
@[simp] theorem State.toCodeword_snapNf (n : Nat) : (s.toCodeword n).snapNf = s.snapNf := rfl
@[simp] theorem State.toCodeword_demod (n : Nat) : (s.toCodeword n).demod = s.demod := rfl
@[simp] theorem State.toCodeword_reply (n : Nat) : (s.toCodeword n).reply = s.reply := rfl
@[simp] theorem State.toCodeword_script (n : Nat) : (s.toCodeword n).script = s.script := rfl

/-! ### snapshot -/

@[simp] theorem State.snapshot_par (c : CfgRegs) (o : BlockOut) : (s.snapshot c o).par = s.par := rfl
@[simp] theorem State.snapshot_mode (c : CfgRegs) (o : BlockOut) : (s.snapshot c o).mode = s.mode := rfl
@[simp] theorem State.snapshot_err (c : CfgRegs) (o : BlockOut) : (s.snapshot c o).err = s.err := rfl
@[simp] theorem State.snapshot_cfgErr (c : CfgRegs) (o : BlockOut) : (s.snapshot c o).cfgErr = s.cfgErr := rfl
@[simp] theorem State.snapshot_irq (c : CfgRegs) (o : BlockOut) : (s.snapshot c o).irq = { s.irq with stats := true } := rfl
@[simp] theorem State.snapshot_irqEnable (c : CfgRegs) (o : BlockOut) : (s.snapshot c o).irqEnable = s.irqEnable := rfl
@[simp] theorem State.snapshot_shadow (c : CfgRegs) (o : BlockOut) : (s.snapshot c o).shadow = s.shadow := rfl
@[simp] theorem State.snapshot_hAddr (c : CfgRegs) (o : BlockOut) : (s.snapshot c o).hAddr = s.hAddr := rfl
@[simp] theorem State.snapshot_hmem (c : CfgRegs) (o : BlockOut) : (s.snapshot c o).hmem = s.hmem := rfl
@[simp] theorem State.snapshot_powerOns (c : CfgRegs) (o : BlockOut) : (s.snapshot c o).powerOns = s.powerOns := rfl
@[simp] theorem State.snapshot_sampFifo (c : CfgRegs) (o : BlockOut) : (s.snapshot c o).sampFifo = s.sampFifo := rfl
@[simp] theorem State.snapshot_pktFifo (c : CfgRegs) (o : BlockOut) : (s.snapshot c o).pktFifo = s.pktFifo := rfl
@[simp] theorem State.snapshot_rdWord (c : CfgRegs) (o : BlockOut) : (s.snapshot c o).rdWord = s.rdWord := rfl
@[simp] theorem State.snapshot_pkw (c : CfgRegs) (o : BlockOut) : (s.snapshot c o).pkw = s.pkw := rfl
@[simp] theorem State.snapshot_cnt (c : CfgRegs) (o : BlockOut) : (s.snapshot c o).cnt = s.cnt := rfl
@[simp] theorem State.snapshot_lastDecode (c : CfgRegs) (o : BlockOut) : (s.snapshot c o).lastDecode = s.lastDecode := rfl
@[simp] theorem State.snapshot_lastUw (c : CfgRegs) (o : BlockOut) : (s.snapshot c o).lastUw = s.lastUw := rfl
@[simp] theorem State.snapshot_specMem (c : CfgRegs) (o : BlockOut) : (s.snapshot c o).specMem = o.powers.map (BitVec.ofInt 32) ++ s.specMem.drop c.nf := rfl
@[simp] theorem State.snapshot_snapNf (c : CfgRegs) (o : BlockOut) : (s.snapshot c o).snapNf = c.nf := rfl
@[simp] theorem State.snapshot_demod (c : CfgRegs) (o : BlockOut) : (s.snapshot c o).demod = s.demod := rfl
@[simp] theorem State.snapshot_framer (c : CfgRegs) (o : BlockOut) : (s.snapshot c o).framer = s.framer := rfl
@[simp] theorem State.snapshot_reply (c : CfgRegs) (o : BlockOut) : (s.snapshot c o).reply = s.reply := rfl
@[simp] theorem State.snapshot_script (c : CfgRegs) (o : BlockOut) : (s.snapshot c o).script = s.script := rfl

/-! ### the resets -/

@[simp] theorem State.softReset_par : s.softReset.par = s.par := rfl
@[simp] theorem State.softReset_mode : s.softReset.mode = (State.resetWith s.par).mode := rfl
@[simp] theorem State.softReset_err : s.softReset.err = (State.resetWith s.par).err := rfl
@[simp] theorem State.softReset_cfgErr : s.softReset.cfgErr = (State.resetWith s.par).cfgErr := rfl
@[simp] theorem State.softReset_irq : s.softReset.irq = (State.resetWith s.par).irq := rfl
@[simp] theorem State.softReset_irqEnable : s.softReset.irqEnable = (State.resetWith s.par).irqEnable := rfl
@[simp] theorem State.softReset_shadow : s.softReset.shadow = (State.resetWith s.par).shadow := rfl
@[simp] theorem State.softReset_hAddr : s.softReset.hAddr = (State.resetWith s.par).hAddr := rfl
@[simp] theorem State.softReset_hmem : s.softReset.hmem = s.hmem := rfl
@[simp] theorem State.softReset_powerOns : s.softReset.powerOns = s.powerOns := rfl
@[simp] theorem State.softReset_sampFifo : s.softReset.sampFifo = (State.resetWith s.par).sampFifo := rfl
@[simp] theorem State.softReset_pktFifo : s.softReset.pktFifo = (State.resetWith s.par).pktFifo := rfl
@[simp] theorem State.softReset_rdWord : s.softReset.rdWord = (State.resetWith s.par).rdWord := rfl
@[simp] theorem State.softReset_pkw : s.softReset.pkw = (State.resetWith s.par).pkw := rfl
@[simp] theorem State.softReset_cnt : s.softReset.cnt = (State.resetWith s.par).cnt := rfl
@[simp] theorem State.softReset_lastDecode : s.softReset.lastDecode = (State.resetWith s.par).lastDecode := rfl
@[simp] theorem State.softReset_lastUw : s.softReset.lastUw = (State.resetWith s.par).lastUw := rfl
@[simp] theorem State.softReset_stats : s.softReset.stats = (State.resetWith s.par).stats := rfl
@[simp] theorem State.softReset_specMem : s.softReset.specMem = (State.resetWith s.par).specMem := rfl
@[simp] theorem State.softReset_snapNf : s.softReset.snapNf = (State.resetWith s.par).snapNf := rfl
@[simp] theorem State.softReset_demod : s.softReset.demod = (State.resetWith s.par).demod := rfl
@[simp] theorem State.softReset_framer : s.softReset.framer = (State.resetWith s.par).framer := rfl
@[simp] theorem State.softReset_reply : s.softReset.reply = (State.resetWith s.par).reply := rfl
@[simp] theorem State.softReset_script : s.softReset.script = s.script := rfl
@[simp] theorem State.powerOnReset_par : s.powerOnReset.par = s.par := rfl
@[simp] theorem State.powerOnReset_mode : s.powerOnReset.mode = (State.resetWith s.par).mode := rfl
@[simp] theorem State.powerOnReset_err : s.powerOnReset.err = (State.resetWith s.par).err := rfl
@[simp] theorem State.powerOnReset_cfgErr : s.powerOnReset.cfgErr = (State.resetWith s.par).cfgErr := rfl
@[simp] theorem State.powerOnReset_irq : s.powerOnReset.irq = (State.resetWith s.par).irq := rfl
@[simp] theorem State.powerOnReset_irqEnable : s.powerOnReset.irqEnable = (State.resetWith s.par).irqEnable := rfl
@[simp] theorem State.powerOnReset_shadow : s.powerOnReset.shadow = (State.resetWith s.par).shadow := rfl
@[simp] theorem State.powerOnReset_hAddr : s.powerOnReset.hAddr = (State.resetWith s.par).hAddr := rfl
@[simp] theorem State.powerOnReset_hmem : s.powerOnReset.hmem = (State.resetWith s.par).hmem := rfl
@[simp] theorem State.powerOnReset_powerOns : s.powerOnReset.powerOns = s.powerOns + 1 := rfl
@[simp] theorem State.powerOnReset_sampFifo : s.powerOnReset.sampFifo = (State.resetWith s.par).sampFifo := rfl
@[simp] theorem State.powerOnReset_pktFifo : s.powerOnReset.pktFifo = (State.resetWith s.par).pktFifo := rfl
@[simp] theorem State.powerOnReset_rdWord : s.powerOnReset.rdWord = (State.resetWith s.par).rdWord := rfl
@[simp] theorem State.powerOnReset_pkw : s.powerOnReset.pkw = (State.resetWith s.par).pkw := rfl
@[simp] theorem State.powerOnReset_cnt : s.powerOnReset.cnt = (State.resetWith s.par).cnt := rfl
@[simp] theorem State.powerOnReset_lastDecode : s.powerOnReset.lastDecode = (State.resetWith s.par).lastDecode := rfl
@[simp] theorem State.powerOnReset_lastUw : s.powerOnReset.lastUw = (State.resetWith s.par).lastUw := rfl
@[simp] theorem State.powerOnReset_stats : s.powerOnReset.stats = (State.resetWith s.par).stats := rfl
@[simp] theorem State.powerOnReset_specMem : s.powerOnReset.specMem = (State.resetWith s.par).specMem := rfl
@[simp] theorem State.powerOnReset_snapNf : s.powerOnReset.snapNf = (State.resetWith s.par).snapNf := rfl
@[simp] theorem State.powerOnReset_demod : s.powerOnReset.demod = (State.resetWith s.par).demod := rfl
@[simp] theorem State.powerOnReset_framer : s.powerOnReset.framer = (State.resetWith s.par).framer := rfl
@[simp] theorem State.powerOnReset_reply : s.powerOnReset.reply = (State.resetWith s.par).reply := rfl
@[simp] theorem State.powerOnReset_script : s.powerOnReset.script = s.script := rfl

end Sys2Proof.Machine
end

