-- ==== Sys2Proof/Laws/Ops.lean ====
section
/-! SUPPORT. One lemma for each shared operation of the host's side: everything it can do, for citing instead of unfolding. -/

namespace Sys2Proof.Machine

variable (s : State)

/-- Setting an ERR flag changes ERR alone. -/
theorem State.setErr_eq (e : ErrFlag) : s.setErr e = { s with err := s.err ||| e.mask } := rfl

/-- The bit of an ERR flag's mask. -/
theorem ErrFlag.mask_getLsbD (e : ErrFlag) (k : Nat) : e.mask.getLsbD k = decide (k = e.bit) := by
  by_cases hk : k < 9
  · cases e <;> interval_cases k <;> decide
  · have hb : e.bit < 9 := by cases e <;> decide
    rw [BitVec.getLsbD_of_ge _ _ (by omega)]
    exact (decide_eq_false (by omega)).symm

/-- The bits of ERR after a flag is set. -/
theorem State.setErr_getLsbD (e : ErrFlag) (k : Nat) : (s.setErr e).err.getLsbD k = (s.err.getLsbD k || decide (k = e.bit)) := by
  rw [State.setErr_eq, BitVec.getLsbD_or, ErrFlag.mask_getLsbD]

/-- The bus error of a read. -/
theorem State.busError_read :
    s.busError .read = { s with err := s.err ||| 0x100#9, reply := some { resp := .error, rdata := some 0 } } := rfl

/-- The bus error of a write. -/
theorem State.busError_write (w : Word) :
    s.busError (.write w) = { s with err := s.err ||| 0x100#9, reply := some { resp := .error, rdata := none } } := rfl

/-- The oldest packet stays until its last word is read, or leaves with it (R430). -/
theorem State.advancePacket_cases :
    (s.rdWord + 1 = s.pkw ∧ s.advancePacket = { s with pktFifo := s.pktFifo.tail, rdWord := 0 }) ∨
      (s.rdWord + 1 ≠ s.pkw ∧ s.advancePacket = { s with rdWord := s.rdWord + 1 }) := by
  unfold State.advancePacket
  split
  · exact .inl ⟨‹_›, rfl⟩
  · exact .inr ⟨‹_›, rfl⟩

/-- What an H_DATA write can do (R411). -/
theorem State.writeHData_cases (w : Word) :
    ((∃ c, s.mode = .run c) ∧ s.writeHData w = s.setErr .hState) ∨
      ((∀ c, s.mode ≠ .run c) ∧ s.par.hMax ≤ s.hAddr.toNat ∧ s.writeHData w = s.setErr .hRange) ∨
      ((∀ c, s.mode ≠ .run c) ∧ s.hAddr.toNat < s.par.hMax ∧ s.writeHData w = s.storeH w) := by
  unfold State.writeHData
  split
  · exact .inl ⟨⟨_, ‹_›⟩, rfl⟩
  · split
    · exact .inr (.inl ⟨by simp_all, ‹_›, rfl⟩)
    · exact .inr (.inr ⟨by simp_all, by omega, rfl⟩)

/-- What a sample word can do under an active configuration (R420). -/
theorem State.acceptSampleWord_cases (c : CfgRegs) (w : Word) :
    (s.sampFree < samplesPerWord c.fmt ∧ s.acceptSampleWord c w =
      { s.setErr .sampOverflow with
        cnt := { s.cnt with sampDrop := s.cnt.sampDrop + BitVec.ofNat 32 (samplesPerWord c.fmt) } }) ∨
      (samplesPerWord c.fmt ≤ s.sampFree ∧ s.acceptSampleWord c w = s.pushSamples (convertSamples c.fmt w)) := by
  unfold State.acceptSampleWord
  split
  · exact .inl ⟨‹_›, rfl⟩
  · exact .inr ⟨by omega, rfl⟩

/-- What a SAMPLE_DATA write can do (R420). -/
theorem State.writeSampleData_cases (w : Word) :
    (s.mode.active = none ∧ s.writeSampleData w = s.setErr .sampState) ∨
      ∃ c, s.mode.active = some c ∧ s.writeSampleData w = s.acceptSampleWord c w := by
  unfold State.writeSampleData
  split <;> simp_all [Mode.active]

/-- A word carries as many samples as S(fmt) says (R321). -/
theorem convertSamples_length (fmt : Nat) (w : Word) : (convertSamples fmt w).length = samplesPerWord fmt := by
  unfold convertSamples samplesPerWord
  split <;> simp

/-- What a command can do (R500). -/
theorem performCommand_cases (k : Command) :
    (commandAllowed k s.mode = true ∧ performCommand k s = commandEffect k s) ∨
      (commandAllowed k s.mode = false ∧ performCommand k s = s.setErr .cmdState) := by
  unfold performCommand
  split
  · exact .inl ⟨‹_›, rfl⟩
  · exact .inr ⟨by simp_all, rfl⟩

/-- What CONFIGURE can do (R512). -/
theorem State.configure_cases :
    (s.validate s.shadow = 0 ∧ s.configure = s.configurePass) ∨
      (s.validate s.shadow ≠ 0 ∧ s.configure = s.configureFail (s.validate s.shadow)) := by
  unfold State.configure
  split
  · exact .inl ⟨‹_›, rfl⟩
  · exact .inr ⟨by simp_all, rfl⟩

/-- What START can do (R520). -/
theorem State.start_cases :
    (∃ c, s.mode = .ready c ∧
      s.start = { s with mode := .run c, demod := demodInit c.os, framer := framerInit }) ∨
      ((∀ c, s.mode ≠ .ready c) ∧ s.start = s) := by
  unfold State.start
  split
  · exact .inl ⟨_, ‹_›, rfl⟩
  · exact .inr ⟨by simp_all, rfl⟩

/-- What STOP can do (R521). -/
theorem State.stop_cases :
    (∃ c, s.mode = .run c ∧
      s.stop = { s with mode := .ready c, sampFifo := [], demod := demodInit c.os, framer := framerInit }) ∨
      ((∀ c, s.mode ≠ .run c) ∧ s.stop = s) := by
  unfold State.stop
  split
  · exact .inl ⟨_, ‹_›, rfl⟩
  · exact .inr ⟨by simp_all, rfl⟩

/-- DEMOD_INIT as R150 lists it. -/
theorem demodInit_eq (os : Nat) : demodInit os = demodAtInit os := by
  simp [demodInit, demodAtInit, branchInit, Cplx.zero]

/-- Validation reads only the parameters, the memory and its draw (R906). -/
theorem State.validate_congr {s t : State} (hp : t.par = s.par) (hm : t.hmem = s.hmem) (hg : t.powerOns = s.powerOns)
    (c : CfgRegs) : t.validate c = s.validate c := by
  have hr : t.hRead = s.hRead := by
    funext a
    simp only [State.hRead, hm, hg]
  simp only [State.validate, State.hEntries, hr, hp]

end Sys2Proof.Machine
end

