-- ==== Sys2Proof/Laws/Framer.lean ====
section
/-! SUPPORT. The framer and the outcome gate: what one soft bit, and a run of them, can change (R700 to R717, R822). -/

namespace Sys2Proof.Machine

/-- `t` differs from `s` at most in what the framer and the decoder own: PKT_FIFO (which only grows, by packets that passed the
checksum), the sticky interrupt bits, the counters, LAST_DECODE, LAST_UW and the framer state. -/
structure FramerFrame (s t : State) : Prop where
  same : t = { s with
    pktFifo := t.pktFifo, irq := t.irq, cnt := t.cnt, lastDecode := t.lastDecode, lastUw := t.lastUw, framer := t.framer }
  packets : ∃ pushed, t.pktFifo = s.pktFifo ++ pushed ∧ ∀ pkt ∈ pushed, crcOk pkt = true
  cfgDone : t.irq.cfgDone = s.irq.cfgDone
  stats : t.irq.stats = s.irq.stats
  sampDrop : t.cnt.sampDrop = s.cnt.sampDrop

/-- Nothing changed. -/
theorem FramerFrame.refl (s : State) : FramerFrame s s := ⟨rfl, ⟨[], by simp, by simp⟩, rfl, rfl, rfl⟩

/-- One change after another. -/
theorem FramerFrame.trans {s t u : State} (h : FramerFrame s t) (k : FramerFrame t u) : FramerFrame s u := by
  obtain ⟨p, hp, hc⟩ := h.packets
  obtain ⟨q, hq, hd⟩ := k.packets
  refine ⟨?_, ⟨p ++ q, by rw [hq, hp, List.append_assoc], ?_⟩, k.cfgDone.trans h.cfgDone, k.stats.trans h.stats,
    k.sampDrop.trans h.sampDrop⟩
  · have hs := h.same
    have ks := k.same
    rw [hs] at ks
    exact ks
  · intro pkt hm
    rcases List.mem_append.mp hm with hm | hm
    · exact hc pkt hm
    · exact hd pkt hm

/-- The outcome gate (R822): a failed parity, a failed checksum, or the push of a packet that passed. -/
theorem State.decodeGate_cases (s : State) (c : CfgRegs) (d : DecodeResult) :
    (d.success = false ∧ s.decodeGate c d =
      { s with
        lastDecode := { iters := BitVec.ofNat 8 d.iters, parityOk := false, crcOk := false, valid := true }
        cnt := { s.cnt with fecFail := s.cnt.fecFail + 1 } }) ∨
    (d.success = true ∧ crcOk (assemblePacket c.pktBytes d.bits) = false ∧ s.decodeGate c d =
      { s with
        lastDecode := { iters := BitVec.ofNat 8 d.iters, parityOk := true, crcOk := false, valid := true }
        cnt := { s.cnt with crcFail := s.cnt.crcFail + 1 } }) ∨
    (d.success = true ∧ crcOk (assemblePacket c.pktBytes d.bits) = true ∧ s.decodeGate c d =
      { s with
        lastDecode := { iters := BitVec.ofNat 8 d.iters, parityOk := true, crcOk := true, valid := true }
        cnt := { s.cnt with pktOk := s.cnt.pktOk + 1 }
        pktFifo := s.pktFifo ++ [assemblePacket c.pktBytes d.bits] }) := by
  cases hs : d.success
  · exact .inl ⟨rfl, by simp [State.decodeGate, hs]⟩
  · cases hc : crcOk (assemblePacket c.pktBytes d.bits)
    · exact .inr (.inl ⟨rfl, rfl, by simp [State.decodeGate, hs, hc]⟩)
    · exact .inr (.inr ⟨rfl, rfl, by simp [State.decodeGate, hs, hc, State.pushPacket]⟩)

/-- The gate does not look at the framer. -/
theorem State.decodeGate_framer (s : State) (c : CfgRegs) (d : DecodeResult) : (s.decodeGate c d).framer = s.framer := by
  rcases s.decodeGate_cases c d with ⟨_, h⟩ | ⟨_, _, h⟩ | ⟨_, _, h⟩ <;> rw [h]

/-- What a decode changes. -/
theorem State.decodeGate_frame (s : State) (c : CfgRegs) (d : DecodeResult) : FramerFrame s (s.decodeGate c d) := by
  rcases s.decodeGate_cases c d with ⟨_, h⟩ | ⟨_, _, h⟩ | ⟨_, hc, h⟩ <;> rw [h]
  · exact ⟨rfl, ⟨[], by simp, by simp⟩, rfl, rfl, rfl⟩
  · exact ⟨rfl, ⟨[], by simp, by simp⟩, rfl, rfl, rfl⟩
  · exact ⟨rfl, ⟨_, rfl, by simpa using hc⟩, rfl, rfl, rfl⟩

/-- A change of the framer state alone. -/
theorem FramerFrame.framer (s : State) (fr : Framer) : FramerFrame s { s with framer := fr } :=
  ⟨rfl, ⟨[], by simp, by simp⟩, rfl, rfl, rfl⟩

/-- Recording a distance in LAST_UW. -/
theorem FramerFrame.recordUw (s : State) (d : Nat) : FramerFrame s (s.recordUw d) :=
  ⟨rfl, ⟨[], by simp, by simp⟩, rfl, rfl, rfl⟩

/-- Counting a miss. -/
theorem FramerFrame.uwMiss (s : State) (n : Word) : FramerFrame s { s with cnt := { s.cnt with uwMiss := n } } :=
  ⟨rfl, ⟨[], by simp, by simp⟩, rfl, rfl, rfl⟩

/-- Losing sync (R716). -/
theorem FramerFrame.loseSync (s : State) : FramerFrame s s.loseSync :=
  ⟨rfl, ⟨[], (List.append_nil _).symm, by simp⟩, rfl, rfl, rfl⟩

/-- What the end of a codeword changes (R712). -/
theorem State.codewordDone_frame (s : State) (c : CfgRegs) : FramerFrame s (s.codewordDone c) := by
  unfold State.codewordDone State.decodeCodeword
  have h1 : FramerFrame s { s with cnt := { s.cnt with frames := s.cnt.frames + 1 } } :=
    ⟨rfl, ⟨[], by simp, by simp⟩, rfl, rfl, rfl⟩
  exact (h1.trans (State.decodeGate_frame _ _ _)).trans (FramerFrame.framer _ _)

/-- What a bit in Searching can do (R710). -/
theorem State.searchBit_cases (s : State) (c : CfgRegs) :
    (s.framer.fill = c.luw ∧ s.framer.distance c ≤ c.uwTol ∧ s.searchBit c =
      { s with
        framer := { s.framer with fstate := .synchronized, phase := .cw, cnt := 0, miss := 0, cwBuf := [] }
        irq := { s.irq with syncChg := true }
        lastUw := { dist := BitVec.ofNat 7 (s.framer.distance c), valid := true }
        cnt := { s.cnt with syncAcq := s.cnt.syncAcq + 1 } }) ∨
    (¬ (s.framer.fill = c.luw ∧ s.framer.distance c ≤ c.uwTol) ∧ s.searchBit c = s) := by
  by_cases hf : s.framer.fill = c.luw
  · by_cases hd : s.framer.distance c ≤ c.uwTol
    · exact .inl ⟨hf, hd, by simp only [State.searchBit, if_pos hf, if_pos hd]; rfl⟩
    · exact .inr ⟨fun h => hd h.2, by simp only [State.searchBit, if_pos hf, if_neg hd]⟩
  · exact .inr ⟨fun h => hf h.1, by simp only [State.searchBit, if_neg hf]⟩

/-- What a bit of the gap can do (R713). -/
theorem State.gapBit_cases (s : State) (c : CfgRegs) :
    (s.framer.cnt + 1 = c.gapBits ∧ s.gapBit c = { s with framer := { s.framer with phase := .uw, cnt := 0 } }) ∨
      (s.framer.cnt + 1 ≠ c.gapBits ∧ s.gapBit c = { s with framer := { s.framer with cnt := s.framer.cnt + 1 } }) := by
  unfold State.gapBit
  split
  · exact .inl ⟨‹_›, rfl⟩
  · exact .inr ⟨‹_›, rfl⟩

/-- What a marker miss can do (R715). -/
theorem State.markerMiss_cases (s : State) (c : CfgRegs) :
    (s.framer.miss + 1 < c.lossThresh ∧ s.markerMiss c =
      State.toCodeword { s with cnt := { s.cnt with uwMiss := s.cnt.uwMiss + 1 } } (s.framer.miss + 1)) ∨
    (c.lossThresh ≤ s.framer.miss + 1 ∧ s.markerMiss c =
      State.loseSync { s with cnt := { s.cnt with uwMiss := s.cnt.uwMiss + 1 } }) := by
  by_cases hm : c.lossThresh ≤ s.framer.miss + 1
  · exact .inr ⟨hm, by unfold State.markerMiss; exact if_pos hm⟩
  · exact .inl ⟨by omega, by unfold State.markerMiss; exact if_neg hm⟩

/-- What a bit of the marker can do (R714 to R717). -/
theorem State.markerBit_cases (s : State) (c : CfgRegs) :
    (s.framer.cnt + 1 ≠ c.luw ∧ s.markerBit c = { s with framer := { s.framer with cnt := s.framer.cnt + 1 } }) ∨
    (s.framer.cnt + 1 = c.luw ∧ s.framer.distance c ≤ c.uwTol ∧
      s.markerBit c = (s.recordUw (s.framer.distance c)).toCodeword 0) ∨
    (s.framer.cnt + 1 = c.luw ∧ c.uwTol < s.framer.distance c ∧ s.framer.miss + 1 < c.lossThresh ∧
      s.markerBit c =
        State.toCodeword
          { s.recordUw (s.framer.distance c) with cnt := { s.cnt with uwMiss := s.cnt.uwMiss + 1 } }
          (s.framer.miss + 1)) ∨
    (s.framer.cnt + 1 = c.luw ∧ c.uwTol < s.framer.distance c ∧ c.lossThresh ≤ s.framer.miss + 1 ∧
      s.markerBit c =
        State.loseSync
          { s.recordUw (s.framer.distance c) with cnt := { s.cnt with uwMiss := s.cnt.uwMiss + 1 } }) := by
  unfold State.markerBit
  split
  · rename_i hcnt
    by_cases hd : s.framer.distance c ≤ c.uwTol
    · exact .inr (.inl ⟨hcnt, hd, by simp only [if_pos hd]; rfl⟩)
    · rcases (s.recordUw (s.framer.distance c)).markerMiss_cases c with ⟨hm, h⟩ | ⟨hm, h⟩
      · exact .inr (.inr (.inl ⟨hcnt, by omega, hm, by simp only [if_neg hd]; exact h⟩))
      · exact .inr (.inr (.inr ⟨hcnt, by omega, hm, by simp only [if_neg hd]; exact h⟩))
  · exact .inl ⟨‹_›, rfl⟩

/-- What a soft bit changes (R701). -/
theorem State.framerBit_frame (s : State) (c : CfgRegs) (v : Int) : FramerFrame s (s.framerBit c v) := by
  unfold State.framerBit
  refine (FramerFrame.framer s (s.framer.shiftIn c (hardBit v))).trans ?_
  generalize { s with framer := s.framer.shiftIn c (hardBit v) } = s1
  simp only []
  split
  · rcases s1.searchBit_cases c with ⟨_, _, h⟩ | ⟨_, h⟩ <;> rw [h]
    · exact ⟨rfl, ⟨[], by simp, by simp⟩, rfl, rfl, rfl⟩
    · exact FramerFrame.refl _
  · unfold State.syncBit
    split
    · unfold State.codewordBit
      simp only []
      split
      · exact (FramerFrame.framer s1 _).trans (State.codewordDone_frame _ _)
      · exact FramerFrame.framer s1 _
    · rcases s1.gapBit_cases c with ⟨_, h⟩ | ⟨_, h⟩ <;> rw [h] <;> exact FramerFrame.framer s1 _
    · have hu := FramerFrame.recordUw s1 (s1.framer.distance c)
      have hm := hu.trans (FramerFrame.uwMiss _ (s1.cnt.uwMiss + 1))
      rcases s1.markerBit_cases c with ⟨_, h⟩ | ⟨_, _, h⟩ | ⟨_, _, _, h⟩ | ⟨_, _, _, h⟩ <;> rw [h]
      · exact FramerFrame.framer s1 _
      · exact hu.trans (FramerFrame.framer _ _)
      · exact hm.trans (FramerFrame.framer _ _)
      · exact hm.trans (FramerFrame.loseSync _)

/-- What a run of soft bits changes (R652). -/
theorem State.framerBits_frame (s : State) (c : CfgRegs) (soft : List Int) : FramerFrame s (s.framerBits c soft) := by
  induction soft generalizing s with
  | nil => exact FramerFrame.refl s
  | cons v soft ih => exact (s.framerBit_frame c v).trans (ih _)

end Sys2Proof.Machine
end

