-- ==== Sys2Proof/Laws/Engine.lean ====
section
/-! SUPPORT. The block step in its three parts: the demodulator, the framer's run over the soft bits, and the end of the block
(R600). -/

namespace Sys2Proof.Machine

/-- What the end of a block can be (R661). -/
theorem State.endBlock_cases (s : State) (c : CfgRegs) (o : BlockOut) :
    (snapshotDue c (s.demod.bss + 1) = true ∧ s.endBlock c o =
      State.snapshot
        { s with
          cnt := s.cnt.countBlock o.soft.length o.tones.low
          demod := { s.demod with bss := s.demod.bss + 1 } } c o) ∨
    (snapshotDue c (s.demod.bss + 1) = false ∧ s.endBlock c o =
      { s with
        cnt := s.cnt.countBlock o.soft.length o.tones.low
        demod := { s.demod with bss := s.demod.bss + 1 } }) := by
  cases h : snapshotDue c (s.demod.bss + 1)
  · exact .inr ⟨rfl, by unfold State.endBlock; exact if_neg (Bool.not_eq_true _ ▸ h)⟩
  · exact .inl ⟨rfl, by unfold State.endBlock; exact if_pos h⟩

/-- What the end of a block changes: the counters, BSS and, with a snapshot, the statistics and IRQ_STATUS.STATS. -/
theorem State.endBlock_frame (s : State) (c : CfgRegs) (o : BlockOut) :
    s.endBlock c o =
      { s with
        irq := { s.irq with stats := (s.endBlock c o).irq.stats }
        cnt := s.cnt.countBlock o.soft.length o.tones.low
        stats := (s.endBlock c o).stats
        specMem := (s.endBlock c o).specMem
        snapNf := (s.endBlock c o).snapNf
        demod := { s.demod with bss := s.demod.bss + 1 } } := by
  rcases s.endBlock_cases c o with ⟨_, h⟩ | ⟨_, h⟩
  · rw [h]; rfl
  · rw [h]

/-- The block step, part by part (R600). -/
theorem State.engineStep_eq (s : State) (c : CfgRegs) :
    s.engineStep c =
      State.endBlock
        (State.framerBits
          { s with sampFifo := s.sampFifo.drop c.blockLen, demod := (demodBlock c s.demod (s.nextBlock c)).1 } c
          (demodBlock c s.demod (s.nextBlock c)).2.soft)
        c (demodBlock c s.demod (s.nextBlock c)).2 := rfl

/-- Where there are enough samples a block has N of them (R602). -/
theorem State.nextBlock_length (s : State) (c : CfgRegs) (h : c.blockLen ≤ s.sampCount) :
    (s.nextBlock c).length = c.blockLen := by
  simp only [State.nextBlock, List.length_map, List.length_take]
  exact min_eq_left h

/-- A block of zero samples reads as zeros (R602). -/
theorem State.nextBlock_zero (s : State) (c : CfgRegs) (h : ∀ x ∈ s.sampFifo, x = { re := 0, im := 0 }) :
    ∀ z ∈ s.nextBlock c, z = Cplx.zero := by
  intro z hz
  obtain ⟨x, hx, rfl⟩ := List.mem_map.mp hz
  rw [h x (List.mem_of_mem_take hx)]
  rfl

/-- The demodulator's part keeps BSS and sets F_VALID (R631, R646). -/
theorem demodBlock_bss (c : CfgRegs) (d : Demod) (x : List Cplx) : (demodBlock c d x).1.bss = d.bss := rfl

/-- After a block the demodulator holds estimates (R631). -/
theorem demodBlock_fValid (c : CfgRegs) (d : Demod) (x : List Cplx) : (demodBlock c d x).1.fValid = true := rfl

/-- The history after a block of N samples has 2·OS entries (R646). -/
theorem Branch.finish_length (c : CfgRegs) (y : List Cplx) (b : Branch) (hy : y.length = c.blockLen)
    (h : 2 * c.os ≤ c.blockLen) : (b.finish c y).yhist.length = 2 * c.os := by
  simp only [Branch.finish, List.length_drop, hy]
  omega

/-- A block emits as many soft bits as there are instants (R645). -/
theorem demodBlock_soft_length (c : CfgRegs) (d : Demod) (x : List Cplx) :
    ∃ p, (demodBlock c d x).1.ptim = p ∧
      (demodBlock c d x).1.last = lastAfter c d.last (symbolInstants c d.last p) ∧
      (demodBlock c d x).2.soft.length = (symbolInstants c d.last p).length :=
  ⟨_, rfl, rfl, softBits_length _ _ _ _⟩

/-- Every soft bit of a block lies in [-127, 127] (R645). -/
theorem demodBlock_soft_bounds (c : CfgRegs) (d : Demod) (x : List Cplx) :
    ∀ v ∈ (demodBlock c d x).2.soft, -127 ≤ v ∧ v ≤ 127 := by
  intro v hv
  obtain ⟨i, _, rfl⟩ := List.mem_map.mp (show v ∈ softBits c _ _ _ from hv)
  exact softBit_bounds _ _ _ _ _

/-- The block has Nf bin powers (R615). -/
theorem demodBlock_powers_length (c : CfgRegs) (d : Demod) (x : List Cplx) :
    (demodBlock c d x).2.powers.length = 2 ^ c.log2Nf := binPowers_length c x

end Sys2Proof.Machine
end

