-- ==== Sys2Proof/Laws/Ldpc.lean ====
section
/-! SUPPORT. The decoder's lists and the checksum: lengths, decisions on zeros, and the CRC as a linear shift (R803 to R821). -/

namespace Sys2Proof.Machine

/-- One sum for every soft bit (R805). -/
@[simp] theorem variableSums_length (rows : List (List Nat)) (l : List Int) (r : List (List Int)) :
    (variableSums rows l r).length = l.length := by
  simp [variableSums]

/-- One decision for every sum (R805). -/
@[simp] theorem decisions_length (s : List Int) : (decisions s).length = s.length := by simp [decisions]

/-- One message for every edge of a row (R804). -/
@[simp] theorem checkUpdate_length (scale offset : Nat) (q : List Int) : (checkUpdate scale offset q).length = q.length := by
  simp [checkUpdate]

/-- Soft bits that are all 0 decide 0 everywhere (R651). -/
theorem decisions_zero (l : List Int) (h : ∀ v ∈ l, v = 0) : ∀ b ∈ decisions l, b = false := by
  intro b hb
  obtain ⟨v, hv, rfl⟩ := List.mem_map.mp hb
  simp [hardBit, h v hv]

/-- A bit of a list of zeros, past its end too. -/
theorem getD_false (c : List Bool) (h : ∀ b ∈ c, b = false) (n : Nat) : c.getD n false = false := by
  by_cases hn : n < c.length
  · rw [List.getD_eq_getElem _ _ hn]
    exact h _ (List.getElem_mem hn)
  · exact List.getD_eq_default _ _ (not_lt.mp hn)

/-- Zero bits satisfy every check (R806). -/
theorem syndromeZero_of_zero (rows : List (List Nat)) (c : List Bool) (h : ∀ b ∈ c, b = false) : syndromeZero rows c = true := by
  refine List.all_eq_true.mpr fun row _ => ?_
  simp only [getD_false c h]
  simp

/-- A packet has as many bytes as asked for (R820). -/
@[simp] theorem assemblePacket_length (p : Nat) (c : List Bool) : (assemblePacket p c).length = p := by simp [assemblePacket]

/-- One bit step of the CRC is linear (R821). -/
theorem crcBit_xor (a b : BitVec 16) : crcBit (a ^^^ b) = crcBit a ^^^ crcBit b := by
  unfold crcBit
  rw [BitVec.msb_xor, BitVec.shiftLeft_xor_distrib]
  generalize a <<< 1 = x
  generalize b <<< 1 = y
  cases a.msb <;> cases b.msb
  · rfl
  · simp [BitVec.xor_assoc]
  · simp only [Bool.true_xor, Bool.not_false, if_true, Bool.false_eq_true, if_false]
    rw [BitVec.xor_assoc, BitVec.xor_comm y, ← BitVec.xor_assoc]
  · simp only [Bool.xor_self, Bool.false_eq_true, if_false, if_true]
    rw [BitVec.xor_assoc, ← BitVec.xor_assoc 0x1021#16, BitVec.xor_comm 0x1021#16, BitVec.xor_assoc y, BitVec.xor_self,
      BitVec.xor_zero]

/-- A run of bit steps is linear (R821). -/
theorem crcBits_xor (n : Nat) (a b : BitVec 16) : crcBits n (a ^^^ b) = crcBits n a ^^^ crcBits n b := by
  induction n generalizing a b with
  | zero => rfl
  | succ n ih => rw [crcBits, crcBit_xor, ih]; rfl

end Sys2Proof.Machine
end

