-- ==== Sys2Proof/Laws/PerInstr.lean ====
section
/-! SUPPORT. The round trip of every instruction: decoding what the encoder writes gives the instruction back (R300, R301,
R400). Every row's offset, free bits and data word are at any value. -/

namespace Sys2Proof.Laws.RoundTrip

open Sys2Proof

/-- A well-formed instruction decodes from its encoding. -/
def Statement (i : Instr) : Prop := i.wf = true → decode (encode i) = .ok i

/-- The decoder reads the key of an access. -/
theorem decode_busAccess (off : BitVec 13) (a : Access) : decode (busAccess off a) = .ok (decodeKey off a) := by
  cases a <;> rfl

/-- A key ends in the two alignment bits. -/
theorem toNat_key {n : Nat} (x : BitVec n) (y : BitVec 2) : (x ++ y).toNat = 4 * x.toNat + y.toNat := by
  rw [BitVec.toNat_append, Nat.shiftLeft_eq, ← Nat.shiftLeft_eq, ← Nat.shiftLeft_add_eq_or_of_lt y.isLt, Nat.shiftLeft_eq]
  omega

/-- The alignment bits of a key. -/
theorem key_low {n : Nat} (x : BitVec n) (y : BitVec 2) : (x ++ y).extractLsb' 0 2 = y := by
  apply BitVec.eq_of_toNat_eq
  have hy := y.isLt
  rw [BitVec.extractLsb'_toNat, toNat_key, Nat.shiftRight_zero]
  omega

/-- The free bits of a key below its fixed prefix. -/
theorem key_free {n m : Nat} (p : BitVec m) (x : BitVec n) (y : BitVec 2) : ((p ++ x) ++ y).extractLsb' 2 n = x := by
  apply BitVec.eq_of_toNat_eq
  have hy := y.isLt
  have hx := x.isLt
  rw [BitVec.extractLsb'_toNat, toNat_key, BitVec.toNat_append, ← Nat.shiftLeft_add_eq_or_of_lt hx,
    Nat.shiftRight_eq_div_pow, Nat.shiftLeft_eq]
  have hdiv : (4 * (p.toNat * 2 ^ n + x.toNat) + y.toNat) / 2 ^ 2 = p.toNat * 2 ^ n + x.toNat := by omega
  rw [hdiv, Nat.mul_comm, Nat.mul_add_mod, Nat.mod_eq_of_lt hx]

/-- The offset bits above the alignment bits. -/
theorem key_high (x : BitVec 11) (y : BitVec 2) : (x ++ y).extractLsb' 2 11 = x := by
  apply BitVec.eq_of_toNat_eq
  have hy := y.isLt
  have hx := x.isLt
  rw [BitVec.extractLsb'_toNat, toNat_key, Nat.shiftRight_eq_div_pow]
  omega

/-- The value of a key with a fixed prefix. -/
theorem toNat_prefix {n m : Nat} (p : BitVec m) (x : BitVec n) (y : BitVec 2) :
    ((p ++ x) ++ y).toNat = 4 * (p.toNat * 2 ^ n + x.toNat) + y.toNat := by
  rw [toNat_key, BitVec.toNat_append, ← Nat.shiftLeft_add_eq_or_of_lt x.isLt, Nat.shiftLeft_eq]

/-- An aligned key is decoded by its offset. -/
theorem decodeKey_aligned {n m : Nat} (h : m + n + 2 = 13) (p : BitVec m) (x : BitVec n) (a : Access) :
    decodeKey (((p ++ x) ++ 0#2).cast h) a = decodeAligned (((p ++ x) ++ 0#2).cast h) a := by
  have hl : (((p ++ x) ++ 0#2).cast h).extractLsb' 0 2 = 0#2 := by
    apply BitVec.eq_of_toNat_eq
    rw [BitVec.extractLsb'_toNat, BitVec.toNat_cast, ← BitVec.extractLsb'_toNat, key_low]
  unfold decodeKey
  rw [hl]
  rfl

/-- The round trip of `nop`. -/
theorem nop : Statement .nop := fun _ => rfl

/-- The round trip of `softReset`. -/
theorem softReset : Statement .softReset := fun _ => rfl

/-- The round trip of `configure`. -/
theorem configure : Statement .configure := fun _ => rfl

/-- The round trip of `start`. -/
theorem start : Statement .start := fun _ => rfl

/-- The round trip of `stop`. -/
theorem stop : Statement .stop := fun _ => rfl

/-- The round trip of `resync`. -/
theorem resync : Statement .resync := fun _ => rfl

/-- The round trip of `clearCounters`. -/
theorem clearCounters : Statement .clearCounters := fun _ => rfl

/-- The round trip of `flushPackets`. -/
theorem flushPackets : Statement .flushPackets := fun _ => rfl

/-- The round trip of `cmdIllegal`. -/
theorem cmdIllegal (w : Word) : Statement (.cmdIllegal w) := fun hw => by
  have h := of_decide_eq_true hw
  have hd : decodeCommand w = none := by
    unfold decodeCommand
    split
    · rfl
    · rename_i hr
      have ho := h.resolve_left hr
      generalize w.extractLsb' 0 8 = o at ho
      revert o
      decide
  rw [encode, decode, decodeCmdWord, hd]

/-- The round trip of `rdId`. -/
theorem rdId : Statement .rdId := fun _ => decode_busAccess 0x0000#13 .read

/-- The round trip of `wrId`. -/
theorem wrId (wdata : Word) : Statement (.wrId wdata) := fun _ => decode_busAccess 0x0000#13 (.write wdata)

/-- The round trip of `rdVersion`. -/
theorem rdVersion : Statement .rdVersion := fun _ => decode_busAccess 0x0004#13 .read

/-- The round trip of `wrVersion`. -/
theorem wrVersion (wdata : Word) : Statement (.wrVersion wdata) := fun _ => decode_busAccess 0x0004#13 (.write wdata)

/-- The round trip of `rdCmd`. -/
theorem rdCmd : Statement .rdCmd := fun _ => decode_busAccess 0x0008#13 .read

/-- The round trip of `wrCmd`. -/
theorem wrCmd (wdata : Word) : Statement (.wrCmd wdata) := fun _ => decode_busAccess 0x0008#13 (.write wdata)

/-- The round trip of `rdStatus`. -/
theorem rdStatus : Statement .rdStatus := fun _ => decode_busAccess 0x000C#13 .read

/-- The round trip of `wrStatus`. -/
theorem wrStatus (wdata : Word) : Statement (.wrStatus wdata) := fun _ => decode_busAccess 0x000C#13 (.write wdata)

/-- The round trip of `rdErr`. -/
theorem rdErr : Statement .rdErr := fun _ => decode_busAccess 0x0010#13 .read

/-- The round trip of `wrErr`. -/
theorem wrErr (wdata : Word) : Statement (.wrErr wdata) := fun _ => decode_busAccess 0x0010#13 (.write wdata)

/-- The round trip of `rdCfgErr`. -/
theorem rdCfgErr : Statement .rdCfgErr := fun _ => decode_busAccess 0x0014#13 .read

/-- The round trip of `wrCfgErr`. -/
theorem wrCfgErr (wdata : Word) : Statement (.wrCfgErr wdata) := fun _ => decode_busAccess 0x0014#13 (.write wdata)

/-- The round trip of `rdIrqStatus`. -/
theorem rdIrqStatus : Statement .rdIrqStatus := fun _ => decode_busAccess 0x0018#13 .read

/-- The round trip of `wrIrqStatus`. -/
theorem wrIrqStatus (wdata : Word) : Statement (.wrIrqStatus wdata) := fun _ => decode_busAccess 0x0018#13 (.write wdata)

/-- The round trip of `rdIrqEnable`. -/
theorem rdIrqEnable : Statement .rdIrqEnable := fun _ => decode_busAccess 0x001C#13 .read

/-- The round trip of `wrIrqEnable`. -/
theorem wrIrqEnable (wdata : Word) : Statement (.wrIrqEnable wdata) := fun _ => decode_busAccess 0x001C#13 (.write wdata)

/-- The round trip of `rdFsHz`. -/
theorem rdFsHz : Statement .rdFsHz := fun _ => decode_busAccess 0x0020#13 .read

/-- The round trip of `wrFsHz`. -/
theorem wrFsHz (wdata : Word) : Statement (.wrFsHz wdata) := fun _ => decode_busAccess 0x0020#13 (.write wdata)

/-- The round trip of `rdRsHz`. -/
theorem rdRsHz : Statement .rdRsHz := fun _ => decode_busAccess 0x0024#13 .read

/-- The round trip of `wrRsHz`. -/
theorem wrRsHz (wdata : Word) : Statement (.wrRsHz wdata) := fun _ => decode_busAccess 0x0024#13 (.write wdata)

/-- The round trip of `rdDemodCfg`. -/
theorem rdDemodCfg : Statement .rdDemodCfg := fun _ => decode_busAccess 0x0028#13 .read

/-- The round trip of `wrDemodCfg`. -/
theorem wrDemodCfg (wdata : Word) : Statement (.wrDemodCfg wdata) := fun _ => decode_busAccess 0x0028#13 (.write wdata)

/-- The round trip of `rdNsym`. -/
theorem rdNsym : Statement .rdNsym := fun _ => decode_busAccess 0x002C#13 .read

/-- The round trip of `wrNsym`. -/
theorem wrNsym (wdata : Word) : Statement (.wrNsym wdata) := fun _ => decode_busAccess 0x002C#13 (.write wdata)

/-- The round trip of `rdAcqCfg`. -/
theorem rdAcqCfg : Statement .rdAcqCfg := fun _ => decode_busAccess 0x0030#13 .read

/-- The round trip of `wrAcqCfg`. -/
theorem wrAcqCfg (wdata : Word) : Statement (.wrAcqCfg wdata) := fun _ => decode_busAccess 0x0030#13 (.write wdata)

/-- The round trip of `rdStatsCfg`. -/
theorem rdStatsCfg : Statement .rdStatsCfg := fun _ => decode_busAccess 0x0034#13 .read

/-- The round trip of `wrStatsCfg`. -/
theorem wrStatsCfg (wdata : Word) : Statement (.wrStatsCfg wdata) := fun _ => decode_busAccess 0x0034#13 (.write wdata)

/-- The round trip of `rdUwCfg`. -/
theorem rdUwCfg : Statement .rdUwCfg := fun _ => decode_busAccess 0x0038#13 .read

/-- The round trip of `wrUwCfg`. -/
theorem wrUwCfg (wdata : Word) : Statement (.wrUwCfg wdata) := fun _ => decode_busAccess 0x0038#13 (.write wdata)

/-- The round trip of `rdUwLo`. -/
theorem rdUwLo : Statement .rdUwLo := fun _ => decode_busAccess 0x003C#13 .read

/-- The round trip of `wrUwLo`. -/
theorem wrUwLo (wdata : Word) : Statement (.wrUwLo wdata) := fun _ => decode_busAccess 0x003C#13 (.write wdata)

/-- The round trip of `rdUwHi`. -/
theorem rdUwHi : Statement .rdUwHi := fun _ => decode_busAccess 0x0040#13 .read

/-- The round trip of `wrUwHi`. -/
theorem wrUwHi (wdata : Word) : Statement (.wrUwHi wdata) := fun _ => decode_busAccess 0x0040#13 (.write wdata)

/-- The round trip of `rdFrameGap`. -/
theorem rdFrameGap : Statement .rdFrameGap := fun _ => decode_busAccess 0x0044#13 .read

/-- The round trip of `wrFrameGap`. -/
theorem wrFrameGap (wdata : Word) : Statement (.wrFrameGap wdata) := fun _ => decode_busAccess 0x0044#13 (.write wdata)

/-- The round trip of `rdLdpcNk`. -/
theorem rdLdpcNk : Statement .rdLdpcNk := fun _ => decode_busAccess 0x0048#13 .read

/-- The round trip of `wrLdpcNk`. -/
theorem wrLdpcNk (wdata : Word) : Statement (.wrLdpcNk wdata) := fun _ => decode_busAccess 0x0048#13 (.write wdata)

/-- The round trip of `rdLdpcAlg`. -/
theorem rdLdpcAlg : Statement .rdLdpcAlg := fun _ => decode_busAccess 0x004C#13 .read

/-- The round trip of `wrLdpcAlg`. -/
theorem wrLdpcAlg (wdata : Word) : Statement (.wrLdpcAlg wdata) := fun _ => decode_busAccess 0x004C#13 (.write wdata)

/-- The round trip of `rdHLen`. -/
theorem rdHLen : Statement .rdHLen := fun _ => decode_busAccess 0x0050#13 .read

/-- The round trip of `wrHLen`. -/
theorem wrHLen (wdata : Word) : Statement (.wrHLen wdata) := fun _ => decode_busAccess 0x0050#13 (.write wdata)

/-- The round trip of `rdHAddr`. -/
theorem rdHAddr : Statement .rdHAddr := fun _ => decode_busAccess 0x0054#13 .read

/-- The round trip of `wrHAddr`. -/
theorem wrHAddr (wdata : Word) : Statement (.wrHAddr wdata) := fun _ => decode_busAccess 0x0054#13 (.write wdata)

/-- The round trip of `rdHData`. -/
theorem rdHData : Statement .rdHData := fun _ => decode_busAccess 0x0058#13 .read

/-- The round trip of `wrHData`. -/
theorem wrHData (wdata : Word) : Statement (.wrHData wdata) := fun _ => decode_busAccess 0x0058#13 (.write wdata)

/-- The round trip of `rdSampleData`. -/
theorem rdSampleData : Statement .rdSampleData := fun _ => decode_busAccess 0x0060#13 .read

/-- The round trip of `wrSampleData`. -/
theorem wrSampleData (wdata : Word) : Statement (.wrSampleData wdata) := fun _ => decode_busAccess 0x0060#13 (.write wdata)

/-- The round trip of `rdSampCount`. -/
theorem rdSampCount : Statement .rdSampCount := fun _ => decode_busAccess 0x0064#13 .read

/-- The round trip of `wrSampCount`. -/
theorem wrSampCount (wdata : Word) : Statement (.wrSampCount wdata) := fun _ => decode_busAccess 0x0064#13 (.write wdata)

/-- The round trip of `rdSampFree`. -/
theorem rdSampFree : Statement .rdSampFree := fun _ => decode_busAccess 0x0068#13 .read

/-- The round trip of `wrSampFree`. -/
theorem wrSampFree (wdata : Word) : Statement (.wrSampFree wdata) := fun _ => decode_busAccess 0x0068#13 (.write wdata)

/-- The round trip of `rdPktCount`. -/
theorem rdPktCount : Statement .rdPktCount := fun _ => decode_busAccess 0x0070#13 .read

/-- The round trip of `wrPktCount`. -/
theorem wrPktCount (wdata : Word) : Statement (.wrPktCount wdata) := fun _ => decode_busAccess 0x0070#13 (.write wdata)

/-- The round trip of `rdPktData`. -/
theorem rdPktData : Statement .rdPktData := fun _ => decode_busAccess 0x0074#13 .read

/-- The round trip of `wrPktData`. -/
theorem wrPktData (wdata : Word) : Statement (.wrPktData wdata) := fun _ => decode_busAccess 0x0074#13 (.write wdata)

/-- The round trip of `rdPktWords`. -/
theorem rdPktWords : Statement .rdPktWords := fun _ => decode_busAccess 0x0078#13 .read

/-- The round trip of `wrPktWords`. -/
theorem wrPktWords (wdata : Word) : Statement (.wrPktWords wdata) := fun _ => decode_busAccess 0x0078#13 (.write wdata)

/-- The round trip of `rdCntBlocks`. -/
theorem rdCntBlocks : Statement .rdCntBlocks := fun _ => decode_busAccess 0x0080#13 .read

/-- The round trip of `wrCntBlocks`. -/
theorem wrCntBlocks (wdata : Word) : Statement (.wrCntBlocks wdata) := fun _ => decode_busAccess 0x0080#13 (.write wdata)

/-- The round trip of `rdCntBits`. -/
theorem rdCntBits : Statement .rdCntBits := fun _ => decode_busAccess 0x0084#13 .read

/-- The round trip of `wrCntBits`. -/
theorem wrCntBits (wdata : Word) : Statement (.wrCntBits wdata) := fun _ => decode_busAccess 0x0084#13 (.write wdata)

/-- The round trip of `rdCntSyncAcq`. -/
theorem rdCntSyncAcq : Statement .rdCntSyncAcq := fun _ => decode_busAccess 0x0088#13 .read

/-- The round trip of `wrCntSyncAcq`. -/
theorem wrCntSyncAcq (wdata : Word) : Statement (.wrCntSyncAcq wdata) := fun _ => decode_busAccess 0x0088#13 (.write wdata)

/-- The round trip of `rdCntSyncLoss`. -/
theorem rdCntSyncLoss : Statement .rdCntSyncLoss := fun _ => decode_busAccess 0x008C#13 .read

/-- The round trip of `wrCntSyncLoss`. -/
theorem wrCntSyncLoss (wdata : Word) : Statement (.wrCntSyncLoss wdata) := fun _ => decode_busAccess 0x008C#13 (.write wdata)

/-- The round trip of `rdCntUwMiss`. -/
theorem rdCntUwMiss : Statement .rdCntUwMiss := fun _ => decode_busAccess 0x0090#13 .read

/-- The round trip of `wrCntUwMiss`. -/
theorem wrCntUwMiss (wdata : Word) : Statement (.wrCntUwMiss wdata) := fun _ => decode_busAccess 0x0090#13 (.write wdata)

/-- The round trip of `rdCntFrames`. -/
theorem rdCntFrames : Statement .rdCntFrames := fun _ => decode_busAccess 0x0094#13 .read

/-- The round trip of `wrCntFrames`. -/
theorem wrCntFrames (wdata : Word) : Statement (.wrCntFrames wdata) := fun _ => decode_busAccess 0x0094#13 (.write wdata)

/-- The round trip of `rdCntFecFail`. -/
theorem rdCntFecFail : Statement .rdCntFecFail := fun _ => decode_busAccess 0x0098#13 .read

/-- The round trip of `wrCntFecFail`. -/
theorem wrCntFecFail (wdata : Word) : Statement (.wrCntFecFail wdata) := fun _ => decode_busAccess 0x0098#13 (.write wdata)

/-- The round trip of `rdCntCrcFail`. -/
theorem rdCntCrcFail : Statement .rdCntCrcFail := fun _ => decode_busAccess 0x009C#13 .read

/-- The round trip of `wrCntCrcFail`. -/
theorem wrCntCrcFail (wdata : Word) : Statement (.wrCntCrcFail wdata) := fun _ => decode_busAccess 0x009C#13 (.write wdata)

/-- The round trip of `rdCntPktOk`. -/
theorem rdCntPktOk : Statement .rdCntPktOk := fun _ => decode_busAccess 0x00A0#13 .read

/-- The round trip of `wrCntPktOk`. -/
theorem wrCntPktOk (wdata : Word) : Statement (.wrCntPktOk wdata) := fun _ => decode_busAccess 0x00A0#13 (.write wdata)

/-- The round trip of `rdCntLowSignal`. -/
theorem rdCntLowSignal : Statement .rdCntLowSignal := fun _ => decode_busAccess 0x00A4#13 .read

/-- The round trip of `wrCntLowSignal`. -/
theorem wrCntLowSignal (wdata : Word) : Statement (.wrCntLowSignal wdata) := fun _ => decode_busAccess 0x00A4#13 (.write wdata)

/-- The round trip of `rdCntSampDrop`. -/
theorem rdCntSampDrop : Statement .rdCntSampDrop := fun _ => decode_busAccess 0x00A8#13 .read

/-- The round trip of `wrCntSampDrop`. -/
theorem wrCntSampDrop (wdata : Word) : Statement (.wrCntSampDrop wdata) := fun _ => decode_busAccess 0x00A8#13 (.write wdata)

/-- The round trip of `rdLastDecode`. -/
theorem rdLastDecode : Statement .rdLastDecode := fun _ => decode_busAccess 0x00AC#13 .read

/-- The round trip of `wrLastDecode`. -/
theorem wrLastDecode (wdata : Word) : Statement (.wrLastDecode wdata) := fun _ => decode_busAccess 0x00AC#13 (.write wdata)

/-- The round trip of `rdLastUw`. -/
theorem rdLastUw : Statement .rdLastUw := fun _ => decode_busAccess 0x00B0#13 .read

/-- The round trip of `wrLastUw`. -/
theorem wrLastUw (wdata : Word) : Statement (.wrLastUw wdata) := fun _ => decode_busAccess 0x00B0#13 (.write wdata)

/-- The round trip of `rdStSeq`. -/
theorem rdStSeq : Statement .rdStSeq := fun _ => decode_busAccess 0x00C0#13 .read

/-- The round trip of `wrStSeq`. -/
theorem wrStSeq (wdata : Word) : Statement (.wrStSeq wdata) := fun _ => decode_busAccess 0x00C0#13 (.write wdata)

/-- The round trip of `rdStF0`. -/
theorem rdStF0 : Statement .rdStF0 := fun _ => decode_busAccess 0x00C4#13 .read

/-- The round trip of `wrStF0`. -/
theorem wrStF0 (wdata : Word) : Statement (.wrStF0 wdata) := fun _ => decode_busAccess 0x00C4#13 (.write wdata)

/-- The round trip of `rdStF1`. -/
theorem rdStF1 : Statement .rdStF1 := fun _ => decode_busAccess 0x00C8#13 .read

/-- The round trip of `wrStF1`. -/
theorem wrStF1 (wdata : Word) : Statement (.wrStF1 wdata) := fun _ => decode_busAccess 0x00C8#13 (.write wdata)

/-- The round trip of `rdStTiming`. -/
theorem rdStTiming : Statement .rdStTiming := fun _ => decode_busAccess 0x00CC#13 .read

/-- The round trip of `wrStTiming`. -/
theorem wrStTiming (wdata : Word) : Statement (.wrStTiming wdata) := fun _ => decode_busAccess 0x00CC#13 (.write wdata)

/-- The round trip of `rdStNout`. -/
theorem rdStNout : Statement .rdStNout := fun _ => decode_busAccess 0x00D0#13 .read

/-- The round trip of `wrStNout`. -/
theorem wrStNout (wdata : Word) : Statement (.wrStNout wdata) := fun _ => decode_busAccess 0x00D0#13 (.write wdata)

/-- The round trip of `rdStSig`. -/
theorem rdStSig : Statement .rdStSig := fun _ => decode_busAccess 0x00D4#13 .read

/-- The round trip of `wrStSig`. -/
theorem wrStSig (wdata : Word) : Statement (.wrStSig wdata) := fun _ => decode_busAccess 0x00D4#13 (.write wdata)

/-- The round trip of `rdStNoise`. -/
theorem rdStNoise : Statement .rdStNoise := fun _ => decode_busAccess 0x00D8#13 .read

/-- The round trip of `wrStNoise`. -/
theorem wrStNoise (wdata : Word) : Statement (.wrStNoise wdata) := fun _ => decode_busAccess 0x00D8#13 (.write wdata)

/-- The round trip of `rdStEavg`. -/
theorem rdStEavg : Statement .rdStEavg := fun _ => decode_busAccess 0x00DC#13 .read

/-- The round trip of `wrStEavg`. -/
theorem wrStEavg (wdata : Word) : Statement (.wrStEavg wdata) := fun _ => decode_busAccess 0x00DC#13 (.write wdata)

/-- The round trip of `rdStFlags`. -/
theorem rdStFlags : Statement .rdStFlags := fun _ => decode_busAccess 0x00E0#13 .read

/-- The round trip of `wrStFlags`. -/
theorem wrStFlags (wdata : Word) : Statement (.wrStFlags wdata) := fun _ => decode_busAccess 0x00E0#13 (.write wdata)

/-- The round trip of `rdStPeaks`. -/
theorem rdStPeaks : Statement .rdStPeaks := fun _ => decode_busAccess 0x00E4#13 .read

/-- The round trip of `wrStPeaks`. -/
theorem wrStPeaks (wdata : Word) : Statement (.wrStPeaks wdata) := fun _ => decode_busAccess 0x00E4#13 (.write wdata)

/-- The round trip of `rdStBlock`. -/
theorem rdStBlock : Statement .rdStBlock := fun _ => decode_busAccess 0x00E8#13 .read

/-- The round trip of `wrStBlock`. -/
theorem wrStBlock (wdata : Word) : Statement (.wrStBlock wdata) := fun _ => decode_busAccess 0x00E8#13 (.write wdata)

/-- The round trip of `rdSpec`. -/
theorem rdSpec (k : BitVec 10) : Statement (.rdSpec k) := fun _ => by
  have hn : 0x1000 ≤ (1#1 ++ k ++ 0#2).toNat := by rw [toNat_prefix]; have := k.isLt; simp only [BitVec.toNat_ofNat]; omega
  rw [encode, decode_busAccess, show decodeKey (1#1 ++ k ++ 0#2) .read = decodeAligned (1#1 ++ k ++ 0#2) .read from
    decodeKey_aligned rfl (1#1) k .read, decodeAligned, if_pos hn, key_free]

/-- The round trip of `wrSpec`. -/
theorem wrSpec (k : BitVec 10) (w : Word) : Statement (.wrSpec k w) := fun _ => by
  have hn : 0x1000 ≤ (1#1 ++ k ++ 0#2).toNat := by rw [toNat_prefix]; have := k.isLt; simp only [BitVec.toNat_ofNat]; omega
  rw [encode, decode_busAccess, show decodeKey (1#1 ++ k ++ 0#2) (.write w) = decodeAligned (1#1 ++ k ++ 0#2) (.write w) from
    decodeKey_aligned rfl (1#1) k (.write w), decodeAligned, if_pos hn, key_free]

/-- The round trip of `reserved05C`. -/
theorem reserved05C (a : Access) : Statement (.reserved05C a) := fun _ => decode_busAccess 0x005C#13 a

/-- The round trip of `reserved06C`. -/
theorem reserved06C (a : Access) : Statement (.reserved06C a) := fun _ => decode_busAccess 0x006C#13 a

/-- The round trip of `reserved07C`. -/
theorem reserved07C (a : Access) : Statement (.reserved07C a) := fun _ => decode_busAccess 0x007C#13 a

/-- The round trip of `reserved0B4`. -/
theorem reserved0B4 (a : Access) : Statement (.reserved0B4 a) := fun _ => decode_busAccess 0x00B4#13 a

/-- The round trip of `reserved0B8`. -/
theorem reserved0B8 (a : Access) : Statement (.reserved0B8 a) := fun _ => decode_busAccess 0x00B8#13 a

/-- The round trip of `reserved0BC`. -/
theorem reserved0BC (a : Access) : Statement (.reserved0BC a) := fun _ => decode_busAccess 0x00BC#13 a

/-- The round trip of `reserved0EC`. -/
theorem reserved0EC (a : Access) : Statement (.reserved0EC a) := fun _ => decode_busAccess 0x00EC#13 a

/-- The round trip of `reserved0F0`. -/
theorem reserved0F0 (j : BitVec 2) (a : Access) : Statement (.reserved0F0 j a) := fun _ => by
  rw [encode, decode_busAccess]
  have hall : ∀ x : BitVec 2, x = 0 ∨ x = 1 ∨ x = 2 ∨ x = 3 := by decide
  obtain h | h | h | h := hall j
  all_goals subst h; rfl

/-- The round trip of `reserved100`. -/
theorem reserved100 (j : BitVec 6) (a : Access) : Statement (.reserved100 j a) := fun _ => by
  have hv : (1#5 ++ j ++ 0#2).toNat = 256 + 4 * j.toNat := by rw [toNat_prefix]; simp only [BitVec.toNat_ofNat]; omega
  have hj := j.isLt
  rw [encode, decode_busAccess, show decodeKey (1#5 ++ j ++ 0#2) a = decodeAligned (1#5 ++ j ++ 0#2) a from decodeKey_aligned rfl (1#5) j a,
    decodeAligned.eq_def, if_neg (by omega), if_neg (by omega), if_neg (by omega), if_neg (by omega), if_pos (by omega), key_free]

/-- The round trip of `reserved200`. -/
theorem reserved200 (j : BitVec 7) (a : Access) : Statement (.reserved200 j a) := fun _ => by
  have hv : (1#4 ++ j ++ 0#2).toNat = 512 + 4 * j.toNat := by rw [toNat_prefix]; simp only [BitVec.toNat_ofNat]; omega
  have hj := j.isLt
  rw [encode, decode_busAccess, show decodeKey (1#4 ++ j ++ 0#2) a = decodeAligned (1#4 ++ j ++ 0#2) a from decodeKey_aligned rfl (1#4) j a,
    decodeAligned.eq_def, if_neg (by omega), if_neg (by omega), if_neg (by omega), if_pos (by omega), key_free]

/-- The round trip of `reserved400`. -/
theorem reserved400 (j : BitVec 8) (a : Access) : Statement (.reserved400 j a) := fun _ => by
  have hv : (1#3 ++ j ++ 0#2).toNat = 1024 + 4 * j.toNat := by rw [toNat_prefix]; simp only [BitVec.toNat_ofNat]; omega
  have hj := j.isLt
  rw [encode, decode_busAccess, show decodeKey (1#3 ++ j ++ 0#2) a = decodeAligned (1#3 ++ j ++ 0#2) a from decodeKey_aligned rfl (1#3) j a,
    decodeAligned.eq_def, if_neg (by omega), if_neg (by omega), if_pos (by omega), key_free]

/-- The round trip of `reserved800`. -/
theorem reserved800 (j : BitVec 9) (a : Access) : Statement (.reserved800 j a) := fun _ => by
  have hv : (1#2 ++ j ++ 0#2).toNat = 2048 + 4 * j.toNat := by rw [toNat_prefix]; simp only [BitVec.toNat_ofNat]; omega
  have hj := j.isLt
  rw [encode, decode_busAccess, show decodeKey (1#2 ++ j ++ 0#2) a = decodeAligned (1#2 ++ j ++ 0#2) a from decodeKey_aligned rfl (1#2) j a,
    decodeAligned.eq_def, if_neg (by omega), if_pos (by omega), key_free]

/-- The round trip of `misaligned1`. -/
theorem misaligned1 (hi : BitVec 11) (a : Access) : Statement (.misaligned1 hi a) := fun _ => by
  rw [encode, decode_busAccess, decodeKey, key_low, key_high]
  rfl

/-- The round trip of `misaligned2`. -/
theorem misaligned2 (hi : BitVec 11) (a : Access) : Statement (.misaligned2 hi a) := fun _ => by
  rw [encode, decode_busAccess, decodeKey, key_low, key_high]
  rfl

/-- The round trip of `misaligned3`. -/
theorem misaligned3 (hi : BitVec 11) (a : Access) : Statement (.misaligned3 hi a) := fun _ => by
  rw [encode, decode_busAccess, decodeKey, key_low, key_high]
  rfl

end Sys2Proof.Laws.RoundTrip
end

