-- ==== Sys2Proof/Laws/Step.lean ====
section
/-! SUPPORT. What a step, a host operation and an engine turn can be: one lemma each, for citing instead of unfolding. -/

namespace Sys2Proof.Machine

/-- What a step can be, by the turn at the head of the script (R210). -/
theorem step_cases (s : State) :
    (s.script = [] ∧ step s = .next s.engineTurn) ∨
      (∃ rest, s.script = .engine :: rest ∧ step s = .next (State.engineTurn { s with script := rest })) ∨
      (∃ rest, s.script = .powerOn :: rest ∧ step s = .next (State.powerOnReset { s with script := rest })) ∨
      ∃ op rest, s.script = .host op :: rest ∧ step s = runHost op { s with script := rest } := by
  unfold step
  split
  · exact .inl ⟨‹_›, rfl⟩
  · exact .inr (.inl ⟨_, ‹_›, rfl⟩)
  · exact .inr (.inr (.inl ⟨_, ‹_›, rfl⟩))
  · exact .inr (.inr (.inr ⟨_, _, ‹_›, rfl⟩))

/-- What a host operation can be: the instruction it decodes to, or the bus error of a request with another size. -/
theorem runHost_cases (op : HostOp) (s : State) :
    (∃ i, decode op = .ok i ∧ runHost op s = exec i s) ∨
      ∃ r, op = .bus r ∧ r.size ≠ 4 ∧ runHost op s = .next (s.busError r.access) := by
  cases op with
  | cmd w => exact .inl ⟨_, rfl, rfl⟩
  | bus r =>
    by_cases h : r.size = 4
    · exact .inl ⟨decodeKey r.off r.access, by simp [decode, h], by simp [runHost, decode, h]⟩
    · exact .inr ⟨r, rfl, h, by simp [runHost, decode, h]⟩

/-- What an engine turn can be (R601). -/
theorem State.engineTurn_cases (s : State) :
    (∃ c, s.mode = .run c ∧ s.engineEnabled = true ∧ s.engineTurn = s.engineStep c) ∨ s.engineTurn = s := by
  unfold State.engineTurn
  split
  · split
    · exact .inl ⟨_, ‹_›, ‹_›, rfl⟩
    · exact .inr rfl
  · exact .inr rfl

/-- Where a block step is enabled (R601). -/
theorem State.engineEnabled_run {s : State} {c : CfgRegs} (h : s.mode = .run c) :
    s.engineEnabled = true ↔ c.blockLen ≤ s.sampCount ∧ c.pMax ≤ s.pktFree := by
  unfold State.engineEnabled
  rw [h]
  simp

end Sys2Proof.Machine
end

