-- ==== Sys2Proof/Tests/Slice0.lean ====
section
/-! SUPPORT. The model's own tests: every constructor's decoding from a word written out from the spec's encoding, the
WellFormed smoke test, the vectors of spec/95_test_vectors.md, and the witnesses that the statements' hypotheses are met. -/

namespace Sys2Proof.Tests

open Sys2Proof Sys2Proof.Machine

/-! ## Helpers -/

/-- A field of an outcome's next state. -/
def nextField {α : Type} (o : Host.Outcome State Fault Refusal) (f : State → α) : Option α :=
  match o with
  | .next s => some (f s)
  | .fault _ => none
  | .refused _ => none

/-- The read data of the latest answer. -/
def readData (s : State) : Option Word := s.reply.bind Reply.rdata

/-- The 24-check test code of section 16.3: check j is {j, (j + 1) mod 24, 24 + j}. -/
def testCode : List Word :=
  (List.range 24).flatMap fun j => [BitVec.ofNat 32 j, BitVec.ofNat 32 ((j + 1) % 24), BitVec.ofNat 32 (2 ^ 31 + 24 + j)]

/-- The P4 configuration of section 20.1. -/
def testCfg : CfgRegs :=
  { fsHz := 921600, rsHz := 115200, demodCfg := 0x40262008, nsym := 16, acqCfg := 0x300C0000, statsCfg := 0x00010004,
    uwCfg := 0x00020210, uwLo := 0x00001ACF, uwHi := 0, frameGap := 0, ldpcNk := 0x00180030, ldpcAlg := 0x00000805,
    hLen := 72 }

/-- IDLE with the P4 configuration in the shadow and the test code in H_MEM. -/
def idle : State := { State.reset with shadow := testCfg, hmem := (List.range 72).zip testCode }

/-- READY after a passing CONFIGURE. -/
def ready : State := { idle with mode := .ready testCfg, pkw := 1, demod := demodInit 8 }

/-- RUN after START, with the samples `xs` waiting. -/
def running (xs : List Sample) : State := { ready with mode := .run testCfg, sampFifo := xs }

/-- One block of zero samples. -/
def zeroBlock : List Sample := List.replicate 128 { re := 0, im := 0 }

/-- A Synchronized framer at place `cnt` of a phase, after `miss` misses, whose window holds `win`. -/
def synced (win : BitVec 64) (phase : Phase) (cnt miss : Nat) (buf : List Int) : Framer :=
  { fstate := .synchronized, win := win, fill := 16, phase := phase, cnt := cnt, miss := miss, cwBuf := buf }

/-- RUN with a given framer. -/
def framing (fr : Framer) : State := { running [] with framer := fr }

/-! ## Decoding -/

/-- CMD words of R301: OP in bits [7:0], RSV in [31:8]. -/
theorem test_decode_commands :
    decodeTableWord 32 0x00000000 = some .nop ∧
    decodeTableWord 32 0x00000001 = some .softReset ∧
    decodeTableWord 32 0x00000002 = some .configure ∧
    decodeTableWord 32 0x00000003 = some .start ∧
    decodeTableWord 32 0x00000004 = some .stop ∧
    decodeTableWord 32 0x00000005 = some .resync ∧
    decodeTableWord 32 0x00000006 = some .clearCounters ∧
    decodeTableWord 32 0x00000007 = some .flushPackets ∧
    decodeTableWord 32 0x00000008 = some (.cmdIllegal 8) ∧
    decodeTableWord 32 0x00000100 = some (.cmdIllegal 0x100) ∧
    decodeTableWord 32 0xFFFFFFFF = some (.cmdIllegal 0xFFFFFFFF) := by
  decide

/-- BUS keys 0x000 to 0x01C: OFF in bits [12:0], WR in bit 13 (R300, R102). -/
theorem test_decode_control :
    decodeTableWord 16 0x0000 = some .rdId ∧
    decodeTableWord 16 0x2000 = some (.wrId 0) ∧
    decodeTableWord 16 0x0004 = some .rdVersion ∧
    decodeTableWord 16 0x2004 = some (.wrVersion 0) ∧
    decodeTableWord 16 0x0008 = some .rdCmd ∧
    decodeTableWord 16 0x2008 = some (.wrCmd 0) ∧
    decodeTableWord 16 0x000C = some .rdStatus ∧
    decodeTableWord 16 0x200C = some (.wrStatus 0) ∧
    decodeTableWord 16 0x0010 = some .rdErr ∧
    decodeTableWord 16 0x2010 = some (.wrErr 0) ∧
    decodeTableWord 16 0x0014 = some .rdCfgErr ∧
    decodeTableWord 16 0x2014 = some (.wrCfgErr 0) ∧
    decodeTableWord 16 0x0018 = some .rdIrqStatus ∧
    decodeTableWord 16 0x2018 = some (.wrIrqStatus 0) ∧
    decodeTableWord 16 0x001C = some .rdIrqEnable ∧
    decodeTableWord 16 0x201C = some (.wrIrqEnable 0) := by
  decide

/-- BUS keys 0x020 to 0x038 (R300, R102). -/
theorem test_decode_config_low :
    decodeTableWord 16 0x0020 = some .rdFsHz ∧
    decodeTableWord 16 0x2020 = some (.wrFsHz 0) ∧
    decodeTableWord 16 0x0024 = some .rdRsHz ∧
    decodeTableWord 16 0x2024 = some (.wrRsHz 0) ∧
    decodeTableWord 16 0x0028 = some .rdDemodCfg ∧
    decodeTableWord 16 0x2028 = some (.wrDemodCfg 0) ∧
    decodeTableWord 16 0x002C = some .rdNsym ∧
    decodeTableWord 16 0x202C = some (.wrNsym 0) ∧
    decodeTableWord 16 0x0030 = some .rdAcqCfg ∧
    decodeTableWord 16 0x2030 = some (.wrAcqCfg 0) ∧
    decodeTableWord 16 0x0034 = some .rdStatsCfg ∧
    decodeTableWord 16 0x2034 = some (.wrStatsCfg 0) ∧
    decodeTableWord 16 0x0038 = some .rdUwCfg ∧
    decodeTableWord 16 0x2038 = some (.wrUwCfg 0) := by
  decide

/-- BUS keys 0x03C to 0x050 (R300, R102). -/
theorem test_decode_config_high :
    decodeTableWord 16 0x003C = some .rdUwLo ∧
    decodeTableWord 16 0x203C = some (.wrUwLo 0) ∧
    decodeTableWord 16 0x0040 = some .rdUwHi ∧
    decodeTableWord 16 0x2040 = some (.wrUwHi 0) ∧
    decodeTableWord 16 0x0044 = some .rdFrameGap ∧
    decodeTableWord 16 0x2044 = some (.wrFrameGap 0) ∧
    decodeTableWord 16 0x0048 = some .rdLdpcNk ∧
    decodeTableWord 16 0x2048 = some (.wrLdpcNk 0) ∧
    decodeTableWord 16 0x004C = some .rdLdpcAlg ∧
    decodeTableWord 16 0x204C = some (.wrLdpcAlg 0) ∧
    decodeTableWord 16 0x0050 = some .rdHLen ∧
    decodeTableWord 16 0x2050 = some (.wrHLen 0) := by
  decide

/-- BUS keys 0x054 to 0x078 (R300, R102). -/
theorem test_decode_ports :
    decodeTableWord 16 0x0054 = some .rdHAddr ∧
    decodeTableWord 16 0x2054 = some (.wrHAddr 0) ∧
    decodeTableWord 16 0x0058 = some .rdHData ∧
    decodeTableWord 16 0x2058 = some (.wrHData 0) ∧
    decodeTableWord 16 0x0060 = some .rdSampleData ∧
    decodeTableWord 16 0x2060 = some (.wrSampleData 0) ∧
    decodeTableWord 16 0x0064 = some .rdSampCount ∧
    decodeTableWord 16 0x2064 = some (.wrSampCount 0) ∧
    decodeTableWord 16 0x0068 = some .rdSampFree ∧
    decodeTableWord 16 0x2068 = some (.wrSampFree 0) ∧
    decodeTableWord 16 0x0070 = some .rdPktCount ∧
    decodeTableWord 16 0x2070 = some (.wrPktCount 0) ∧
    decodeTableWord 16 0x0074 = some .rdPktData ∧
    decodeTableWord 16 0x2074 = some (.wrPktData 0) ∧
    decodeTableWord 16 0x0078 = some .rdPktWords ∧
    decodeTableWord 16 0x2078 = some (.wrPktWords 0) := by
  decide

/-- BUS keys 0x080 to 0x094 (R300, R102). -/
theorem test_decode_counters_low :
    decodeTableWord 16 0x0080 = some .rdCntBlocks ∧
    decodeTableWord 16 0x2080 = some (.wrCntBlocks 0) ∧
    decodeTableWord 16 0x0084 = some .rdCntBits ∧
    decodeTableWord 16 0x2084 = some (.wrCntBits 0) ∧
    decodeTableWord 16 0x0088 = some .rdCntSyncAcq ∧
    decodeTableWord 16 0x2088 = some (.wrCntSyncAcq 0) ∧
    decodeTableWord 16 0x008C = some .rdCntSyncLoss ∧
    decodeTableWord 16 0x208C = some (.wrCntSyncLoss 0) ∧
    decodeTableWord 16 0x0090 = some .rdCntUwMiss ∧
    decodeTableWord 16 0x2090 = some (.wrCntUwMiss 0) ∧
    decodeTableWord 16 0x0094 = some .rdCntFrames ∧
    decodeTableWord 16 0x2094 = some (.wrCntFrames 0) := by
  decide

/-- BUS keys 0x098 to 0x0B0 (R300, R102). -/
theorem test_decode_counters_high :
    decodeTableWord 16 0x0098 = some .rdCntFecFail ∧
    decodeTableWord 16 0x2098 = some (.wrCntFecFail 0) ∧
    decodeTableWord 16 0x009C = some .rdCntCrcFail ∧
    decodeTableWord 16 0x209C = some (.wrCntCrcFail 0) ∧
    decodeTableWord 16 0x00A0 = some .rdCntPktOk ∧
    decodeTableWord 16 0x20A0 = some (.wrCntPktOk 0) ∧
    decodeTableWord 16 0x00A4 = some .rdCntLowSignal ∧
    decodeTableWord 16 0x20A4 = some (.wrCntLowSignal 0) ∧
    decodeTableWord 16 0x00A8 = some .rdCntSampDrop ∧
    decodeTableWord 16 0x20A8 = some (.wrCntSampDrop 0) ∧
    decodeTableWord 16 0x00AC = some .rdLastDecode ∧
    decodeTableWord 16 0x20AC = some (.wrLastDecode 0) ∧
    decodeTableWord 16 0x00B0 = some .rdLastUw ∧
    decodeTableWord 16 0x20B0 = some (.wrLastUw 0) := by
  decide

/-- BUS keys 0x0C0 to 0x0D4 (R300, R102). -/
theorem test_decode_stats_low :
    decodeTableWord 16 0x00C0 = some .rdStSeq ∧
    decodeTableWord 16 0x20C0 = some (.wrStSeq 0) ∧
    decodeTableWord 16 0x00C4 = some .rdStF0 ∧
    decodeTableWord 16 0x20C4 = some (.wrStF0 0) ∧
    decodeTableWord 16 0x00C8 = some .rdStF1 ∧
    decodeTableWord 16 0x20C8 = some (.wrStF1 0) ∧
    decodeTableWord 16 0x00CC = some .rdStTiming ∧
    decodeTableWord 16 0x20CC = some (.wrStTiming 0) ∧
    decodeTableWord 16 0x00D0 = some .rdStNout ∧
    decodeTableWord 16 0x20D0 = some (.wrStNout 0) ∧
    decodeTableWord 16 0x00D4 = some .rdStSig ∧
    decodeTableWord 16 0x20D4 = some (.wrStSig 0) := by
  decide

/-- BUS keys 0x0D8 to 0x0E8 (R300, R102). -/
theorem test_decode_stats_high :
    decodeTableWord 16 0x00D8 = some .rdStNoise ∧
    decodeTableWord 16 0x20D8 = some (.wrStNoise 0) ∧
    decodeTableWord 16 0x00DC = some .rdStEavg ∧
    decodeTableWord 16 0x20DC = some (.wrStEavg 0) ∧
    decodeTableWord 16 0x00E0 = some .rdStFlags ∧
    decodeTableWord 16 0x20E0 = some (.wrStFlags 0) ∧
    decodeTableWord 16 0x00E4 = some .rdStPeaks ∧
    decodeTableWord 16 0x20E4 = some (.wrStPeaks 0) ∧
    decodeTableWord 16 0x00E8 = some .rdStBlock ∧
    decodeTableWord 16 0x20E8 = some (.wrStBlock 0) := by
  decide

/-- SPEC[k] at offset 0x1000 + 4k (R143). -/
theorem test_decode_spec :
    decodeTableWord 16 0x1000 = some (.rdSpec 0) ∧
    decodeTableWord 16 0x1020 = some (.rdSpec 8) ∧
    decodeTableWord 16 0x1FFC = some (.rdSpec 1023) ∧
    decodeTableWord 16 0x3000 = some (.wrSpec 0 0) ∧
    decodeTableWord 16 0x3FFC = some (.wrSpec 1023 0) := by
  decide

/-- The reserved offsets of R102 below 0x0F0, read, and one of them written. -/
theorem test_decode_reserved_single :
    decodeTableWord 16 0x005C = some (.reserved05C .read) ∧
    decodeTableWord 16 0x006C = some (.reserved06C .read) ∧
    decodeTableWord 16 0x007C = some (.reserved07C .read) ∧
    decodeTableWord 16 0x00B4 = some (.reserved0B4 .read) ∧
    decodeTableWord 16 0x00B8 = some (.reserved0B8 .read) ∧
    decodeTableWord 16 0x00BC = some (.reserved0BC .read) ∧
    decodeTableWord 16 0x00EC = some (.reserved0EC .read) ∧
    decodeTableWord 16 0x20B4 = some (.reserved0B4 (.write 0)) := by
  decide

/-- The first and last offsets of the reserved ranges (R102, R106). -/
theorem test_decode_reserved_ranges :
    decodeTableWord 16 0x00F0 = some (.reserved0F0 0 .read) ∧
    decodeTableWord 16 0x00FC = some (.reserved0F0 3 .read) ∧
    decodeTableWord 16 0x0100 = some (.reserved100 0 .read) ∧
    decodeTableWord 16 0x21FC = some (.reserved100 63 (.write 0)) ∧
    decodeTableWord 16 0x0200 = some (.reserved200 0 .read) ∧
    decodeTableWord 16 0x03FC = some (.reserved200 127 .read) ∧
    decodeTableWord 16 0x0400 = some (.reserved400 0 .read) ∧
    decodeTableWord 16 0x07FC = some (.reserved400 255 .read) ∧
    decodeTableWord 16 0x0800 = some (.reserved800 0 .read) ∧
    decodeTableWord 16 0x0FFC = some (.reserved800 511 .read) := by
  decide

/-- Misaligned offsets, checked before the map (R400). -/
theorem test_decode_misaligned :
    decodeTableWord 16 0x0001 = some (.misaligned1 0 .read) ∧
    decodeTableWord 16 0x0002 = some (.misaligned2 0 .read) ∧
    decodeTableWord 16 0x200E = some (.misaligned2 3 (.write 0)) ∧
    decodeTableWord 16 0x1FFF = some (.misaligned3 0x7FF .read) := by
  decide

/-- A request of another size has no key (R300); the step answers it with the bus error. -/
theorem test_decode_size :
    decode (.bus { kind := .read, off := 0x1000, size := 2, wdata := 0 }) = .error (.sizeNotFour .read) := by
  decide

/-- WellFormed refuses a CMD_ILLEGAL that carries a legal word: bits [31:8] zero and OP ≤ 0x07 (R301). -/
theorem test_wf_refuses_legal_word : (Instr.cmdIllegal 0).wf = false ∧ (Instr.cmdIllegal 7).wf = false := by decide

/-- WellFormed accepts the least illegal words on both sides of R301's condition. -/
theorem test_wf_accepts_illegal_word : (Instr.cmdIllegal 8).wf = true ∧ (Instr.cmdIllegal 0x100).wf = true := by decide

/-! ## Host accesses (sections 2 to 8 of 95_test_vectors.md) -/

/-- Section 2: reserved offset, misaligned offset and the SPEC window with a wrong size. -/
theorem test_bus_errors :
    nextField (runHost (.bus { kind := .read, off := 0x0EC, size := 4, wdata := 0 }) State.reset)
        (fun t => (t.err, t.reply)) = some (0x100, some { resp := .error, rdata := some 0 }) ∧
      nextField (runHost (.bus { kind := .write, off := 0x06C, size := 4, wdata := 1 }) State.reset)
        (fun t => (t.err, t.reply)) = some (0x100, some { resp := .error, rdata := none }) ∧
      nextField (runHost (.bus { kind := .read, off := 0x1000, size := 2, wdata := 0 }) State.reset)
        (fun t => (t.err, t.reply)) = some (0x100, some { resp := .error, rdata := some 0 }) := by
  decide

/-- Section 3: what the masked registers store of all ones. -/
theorem test_write_masks :
    nextField (exec (.wrDemodCfg 0xFFFFFFFF) State.reset) (·.shadow.demodCfg) = some 0xFFFFF7FF#32 ∧
      nextField (exec (.wrNsym 0x00010010) State.reset) (·.shadow.nsym) = some 0x00000010#32 ∧
      nextField (exec (.wrUwCfg 0xFFFFFFFF) State.reset) (·.shadow.uwCfg) = some 0x00FF7F7F#32 ∧
      nextField (exec (.wrLdpcAlg 0xFFFFFFFF) State.reset) (·.shadow.ldpcAlg) = some 0x007F0FFF#32 ∧
      nextField (exec (.wrHLen 0xFFFFFFFF) State.reset) (·.shadow.hLen) = some 0x0001FFFF#32 ∧
      nextField (exec (.wrFrameGap 0xFFFFFFFF) State.reset) (·.shadow.frameGap) = some 0x0000FFFF#32 ∧
      nextField (exec (.wrIrqEnable 0xFF) State.reset) (·.irqEnable) = some 0x1F#5 ∧
      nextField (exec (.wrHAddr 0x12345) State.reset) (·.hAddr) = some 0x2345#16 := by
  decide

/-- Section 3: the reads at reset. -/
theorem test_reads_at_reset :
    nextField (exec .rdId State.reset) readData = some (some 0x57525843) ∧
      nextField (exec .rdSampFree State.reset) readData = some (some 0x00010000) ∧
      nextField (exec .rdLdpcAlg State.reset) readData = some (some 0x00000805) ∧
      nextField (exec (.rdSpec 0x3FF) State.reset) readData = some (some 0) ∧
      nextField (exec .rdStatus State.reset) readData = some (some 0) := by
  decide

/-- R407's example: with ERR = 0x6, WR ERR, 0x2 leaves 0x4. -/
theorem test_wrErr_clears_one : nextField (exec (.wrErr 0x2) { State.reset with err := 0x6 }) (·.err) = some 0x4#9 := by
  decide

/-- R410's example: WR IRQ_STATUS, 0x1F after a failed CONFIGURE leaves 0x08. -/
theorem test_wrIrqStatus_keeps_levels :
    nextField (exec (.wrIrqStatus 0x1F) { State.reset with err := 4, irq := ⟨false, false, true⟩ }) State.irqStatus =
      some 0x08#5 := by
  decide

/-- Section 4: entry 0 stored and H_ADDR moved on; at H_ADDR = 0x8000 refused with H_RANGE. -/
theorem test_wrHData :
    nextField (exec (.wrHData 0x80000018) State.reset) (fun t => (t.hmem, t.hAddr, t.err)) =
        some ([(0, 0x80000018#32)], 1#16, 0#9) ∧
      nextField (exec (.wrHData 1) { State.reset with hAddr := 0x8000 }) (fun t => (t.hmem, t.hAddr, t.err)) =
        some ([], 0x8000#16, 0x80#9) := by
  decide

/-- Section 4's corner case: with P_H_MAX = 65536 a write at 0xFFFF stores and H_ADDR wraps; in READY it leaves for IDLE, in
RUN it sets H_STATE. -/
theorem test_wrHData_corners :
    nextField (exec (.wrHData 5) { State.reset with par := { Params.default with hMax := 65536 }, hAddr := 0xFFFF })
        (fun t => (t.hmem, t.hAddr)) = some ([(65535, 5#32)], 0#16) ∧
      nextField (exec (.wrHData 5) { State.reset with mode := .ready testCfg }) (·.mode) = some .idle ∧
      nextField (exec (.wrHData 5) { State.reset with mode := .run testCfg }) (fun t => (t.err, t.hAddr)) =
        some (0x40#9, 0#16) := by
  decide

/-- Section 4: reads do not advance, and are refused at 0x8000. -/
theorem test_rdHData :
    nextField (exec .rdHData { State.reset with hmem := [(0, 0x80000018#32)] }) (fun t => (readData t, t.hAddr)) =
        some (some 0x80000018, 0#16) ∧
      nextField (exec .rdHData { State.reset with hAddr := 0x8000 }) (fun t => (readData t, t.err)) =
        some (some 0, 0x80#9) := by
  decide

/-- Section 5: the sample formats. -/
theorem test_sample_formats :
    (convertSamples 0 0xD2BF2D41).map Sample.toCplx = [⟨11585, -11585⟩] ∧
      (convertSamples 1 0x80FF7F00).map Sample.toCplx = [⟨-32768, -256⟩, ⟨32512, 0⟩] ∧
      (convertSamples 2 0xFFFE0001).map Sample.toCplx = [⟨1, 0⟩, ⟨-2, 0⟩] ∧
      (convertSamples 3 0x01807FFF).map Sample.toCplx = [⟨32512, 0⟩, ⟨-256, 0⟩, ⟨0, 0⟩, ⟨-32512, 0⟩] := by
  decide

/-- Section 6: accepted in READY, refused in IDLE without a drop counted. -/
theorem test_wrSampleData :
    nextField (exec (.wrSampleData 0x12345678) ready) (fun t => (t.sampFifo, t.sampFree)) =
        some ([{ re := 22136, im := 4660 }], 65535) ∧
      nextField (exec (.wrSampleData 7) State.reset) (fun t => (t.err, t.cnt.sampDrop)) = some (0x10#9, 0#32) := by
  decide

/-- Section 6: a two-sample word is dropped whole where one place is free. -/
theorem test_wrSampleData_dropped :
    nextField
        (exec (.wrSampleData 7)
          { State.reset with
            par := { Params.default with sampDepth := 1 }, mode := .ready { testCfg with demodCfg := 0x40262108 } })
        (fun t => (t.err, t.cnt.sampDrop, t.sampFifo)) = some (0x08#9, 2#32, []) := by
  decide

/-- R430's example: the packet 5A 1A 4F with PKW = 1 reads as 0x004F1A5A and leaves; an empty FIFO underflows. -/
theorem test_rdPktData :
    nextField (exec .rdPktData { State.reset with pktFifo := [[0x5A, 0x1A, 0x4F]], pkw := 1 })
        (fun t => (readData t, t.pktFifo, t.rdWord)) = some (some 0x004F1A5A, [], 0) ∧
      nextField (exec .rdPktData State.reset) (fun t => (readData t, t.err)) = some (some 0, 0x20#9) := by
  decide

/-- Section 7: the illegal words and the refusals in IDLE. -/
theorem test_refused_commands :
    nextField (exec (.wrCmd 0x00000100) State.reset) (·.err) = some 0x01#9 ∧
      nextField (exec (.wrCmd 0x00000008) State.reset) (·.err) = some 0x01#9 ∧
      nextField (exec .resync State.reset) (·.err) = some 0x02#9 ∧
      nextField (exec .stop State.reset) (·.err) = some 0x02#9 ∧
      nextField (exec .start State.reset) (·.err) = some 0x02#9 ∧
      nextField (exec .configure (running [])) (fun t => (t.err, t.mode.code)) = some (0x02#9, 2#2) := by
  decide

/-- Section 7: CONFIGURE from reset fails with code 1; run as the first instruction after reset. -/
theorem test_configure_fails_at_reset :
    nextField (step (State.reset.withFetchWord 32 2)) (fun t => (t.status, t.err, t.cfgErr, t.irqStatus)) =
      some (3#32, 4#9, 1#8, 0x18#5) := by
  decide

set_option maxRecDepth 100000 in
/-- Section 8: the P4 configuration passes. -/
theorem test_validate_passes : idle.validate testCfg = 0 := by decide +kernel

set_option maxRecDepth 100000 in
/-- Section 8: one change each, up to the last check. -/
theorem test_validate_codes :
    idle.validate { testCfg with demodCfg := 0x40264008 } = 2 ∧ idle.validate { testCfg with fsHz := 921601 } = 4 ∧
      idle.validate { testCfg with acqCfg := 0x300C0015 } = 8 ∧ idle.validate { testCfg with uwCfg := 0x00020810 } = 11 ∧
      idle.validate { testCfg with ldpcAlg := 0x905 } = 14 ∧ idle.validate { testCfg with ldpcNk := 0x00180028 } = 17 ∧
      idle.validate { testCfg with hLen := 71 } = 18 ∧ idle.validate { testCfg with nsym := 200 } = 23 := by
  decide +kernel

/-! ## The demodulator (sections 9 to 14) -/

/-- Section 9: SIN and COS. -/
theorem test_sine :
    [0, 256, 512, 768, 1, 64, 257, 511, 513, 767, 769, -1, 1029, 300, 600, 1000].map sine =
        [0, 32767, 0, -32767, 201, 12539, 32766, 201, -201, -32766, -32766, -201, 1005, 31580, -16846, -4808] ∧
      [0, 128, 512].map cosine = [32767, 23170, -32767] := by
  decide +kernel

/-- Section 9: the window. -/
theorem test_window :
    [0, 1, 2, 4, 8, 16, 24, 31, 32, 33, 48, 56, 63].map (window 64) =
        [0, 79, 315, 1247, 4799, 16384, 27969, 32688, 32767, 32688, 16384, 4799, 79] ∧ window 1024 1 = 1 := by
  decide +kernel

/-- Section 10: the impulse at n = 1. -/
theorem test_fft_impulse :
    (let x := fft 6 [⟨0, 0⟩, ⟨16384, 0⟩]
     [0, 1, 16, 32, 48].map fun k => x.getD k Cplx.zero) =
      [⟨255, 0⟩, ⟨254, -26⟩, ⟨0, -256⟩, ⟨-256, 0⟩, ⟨0, 256⟩] := by
  decide +kernel

/-- Section 11: an all-zero block. -/
theorem test_toneSearch_zero :
    (let r := toneSearch testCfg (List.replicate 64 0)
     (r.k1, r.k2, r.sig, r.nz, r.low)) = (-12, -8, 0, 0, true) := by
  decide +kernel

/-- Section 12: smoothing with s = 2 (DEMOD_CFG of P4) and the first measurement. -/
theorem test_smooth :
    (smooth testCfg true 4 5).toInt = 4 ∧ (smooth testCfg true 5 4).toInt = 4 ∧
      (smooth testCfg true (BitVec.ofInt 32 (-805306368)) (-536870912)).toInt = -738197504 ∧
      smooth testCfg false 0 (binNco testCfg (-12)) = 0xD0000000#32 := by
  decide

/-- Section 13: the mixer. -/
theorem test_mixSample :
    mixSample 0 ⟨16383, 0⟩ = ⟨16382, 0⟩ ∧ mixSample 0x40000000 ⟨16383, 0⟩ = ⟨0, -16383⟩ ∧
      mixSample 0x80000000 ⟨16383, 0⟩ = ⟨-16383, 0⟩ ∧ mixSample 0x20000000 ⟨16383, 0⟩ = ⟨11584, -11585⟩ := by
  decide +kernel

/-- Section 14: the matched filter of a constant, before the block and within it. -/
theorem test_matchedFilter :
    (let a := matchedFilter { testCfg with nsym := 2 } (List.replicate 16 Cplx.zero) (List.replicate 16 ⟨100, 0⟩)
     (a.length, energyAt testCfg a (-1), energyAt testCfg a 0, energyAt testCfg a 7)) = (24, 0, 10000, 640000) := by
  decide +kernel

/-- Section 14: the emission table. -/
theorem test_emission :
    ([(-5, 0), (-5, 3), (-5, 7), (-8, 0), (-8, 7), (-1, 0), (-1, 7)].map fun (last, p) =>
        let cs := symbolInstants testCfg last p
        (cs.head?, cs.length, lastAfter testCfg last cs)) =
      [(some 0, 16, -8), (some 3, 16, -5), (some 7, 16, -1), (some 0, 16, -8), (some (-1), 17, -1), (some 8, 15, -8),
        (some 7, 16, -1)] := by
  decide +kernel

/-- Section 14: soft bits and hard bits. -/
theorem test_softBit :
    softBit 64 16 1000 0 16000 = 64 ∧ softBit 64 16 0 1000 16000 = -64 ∧ softBit 64 16 1000 0 1000 = 127 ∧
      softBit 64 16 0 1 1000 = -1 ∧ softBit 64 16 5 5 0 = 0 ∧ [63, -64, 0].map hardBit = [false, true, false] := by
  decide

set_option maxRecDepth 100000 in
/-- Program P3 (section 20.4): one block step over zeros from RUN. -/
theorem test_engineStep_zero_block :
    (let t := State.engineStep (running zeroBlock) testCfg
     (t.status, t.stats.peaks, t.stats.flags, t.cnt.bits, t.cnt.lowSignal, t.sampFifo)) =
      (0x5A#32, 0xFFF8FFF4#32, 5#3, 16#32, 1#32, []) := by
  decide +kernel

/-! ## The framer and the decoder (sections 15 to 17) -/

/-- Section 15.1: distances. -/
theorem test_distance :
    ([0x1ACF, 0x5555, 0x0000, 0xE530].map fun w => (synced (BitVec.ofNat 64 w) .uw 0 0 []).distance testCfg) =
      [0, 9, 9, 16] := by
  decide +kernel

/-- Section 15.2: the last bit of the unique word acquires with two flips and not with three. -/
theorem test_acquisition :
    (let s := framing { framerInit with win := 0x4D66, fill := 15 }
     let t := s.framerBit testCfg (-50)
     (t.framer.fstate, t.lastUw, t.cnt.syncAcq)) = (.synchronized, ⟨2, true⟩, 1) ∧
    (State.framerBit (framing { framerInit with win := 0x7D67, fill := 15 }) testCfg (-50)).framer.fstate = .searching := by
  decide +kernel

/-- Section 15.3: a match resets the run of misses, the second miss in a row loses sync and keeps the window. -/
theorem test_marker :
    (State.framerBit (framing (synced 0x0D67 .uw 15 1 [])) testCfg (-50)).framer.miss = 0 ∧
      (let t := State.framerBit (framing (synced 0 .uw 15 0 [])) testCfg 50
       (t.framer.fstate, t.framer.miss, t.cnt.uwMiss)) = (.synchronized, 1, 1) ∧
      (let t := State.framerBit (framing (synced 0 .uw 15 1 [])) testCfg 50
       (t.framer.fstate, t.framer.fill, t.cnt.syncLoss, t.irq.syncChg)) = (.searching, 16, 1, true) := by
  decide +kernel

/-- Section 16.1: the check node. -/
theorem test_checkUpdate :
    checkUpdate 8 0 [5, -3, 0, 9] = [0, 0, -3, 0] ∧ checkUpdate 6 1 [5, -3, 0, 9] = [0, 0, -1, 0] ∧
      checkUpdate 8 0 [-3, 10] = [10, -3] := by
  decide

/-- The three-check code of section 16.2. -/
def threeChecks : List (List Nat) := [[0, 1, 3], [1, 2, 4], [0, 2, 5]]

/-- R330's example: the entries of the three-check code. -/
theorem test_graphRows :
    graphRows [0x00000000, 0x00000001, 0x80000003, 0x00000001, 0x00000002, 0x80000004, 0x00000000, 0x00000002, 0x80000005] =
      threeChecks := by
  decide

/-- Section 16.2: decodes of the three-check code. -/
theorem test_ldpcDecode :
    ldpcDecode threeChecks 5 8 0 [5, -20, 7, 7, -2, 7] =
        { success := true, iters := 2, bits := [false, true, false, true, true, false] } ∧
      ldpcDecode threeChecks 5 6 1 [127, -127, 127, 127, 127, -127] =
        { success := false, iters := 5, bits := [true, false, true, false, false, true] } ∧
      ldpcDecode threeChecks 5 8 0 [0, 0, 0, 0, 0, 0] =
        { success := true, iters := 0, bits := [false, false, false, false, false, false] } := by
  decide +kernel

/-- R820's example: the information bits of the packet 5A 1A 4F. -/
theorem test_assemblePacket :
    assemblePacket 3 ("010110100001101001001111".toList.map (· == '1')) = [0x5A, 0x1A, 0x4F] := by
  decide +kernel

/-- Section 17: the CRC, and the packet 5A 1A 4F passes it. -/
theorem test_crc16 :
    crc16 [] = 0xFFFF ∧ crc16 [0x00] = 0xE1F0 ∧ crc16 [0x5A] = 0x1A4F ∧ crc16 [0, 0, 0, 0] = 0x84C0 ∧
      crcOk [0x5A, 0x1A, 0x4F] = true ∧ crcOk [0, 0, 0] = false := by
  decide +kernel

/-- R360: HLOAD is a write to H_ADDR, then one to H_DATA for each entry. -/
theorem test_hload :
    (HostStmt.hload 0 [7, 8]).turns 0 = [wrTurn 0x054 0, wrTurn 0x058 7, wrTurn 0x058 8] ∧
      (HostStmt.cmd .start).turns 0 = [.host (.bus { kind := .write, off := 0x008, size := 4, wdata := 3 })] := by
  decide

/-! ## The statements' hypotheses are met -/

/-- DecodeOfEncodeIsIdentity, EncodeOfDecodeIsIdentity: a well-formed instruction, and operations that decode. -/
theorem witness_decode :
    (Instr.cmdIllegal 0x100).wf = true ∧ decode (.cmd 0x00000007) = .ok .flushPackets ∧
      decode (.bus { kind := .read, off := 0x1FFC, size := 4, wdata := 9 }) = .ok (.rdSpec 0x3FF) := by
  decide

/-- StepRunsDecodedInstruction, PowerOnTurnResets: a turn of each kind. -/
theorem witness_script :
    (∃ s : State, s.script = .host (.cmd 0) :: [.engine] ∧ decode (.cmd 0) = .ok .nop) ∧
      (∃ s : State, s.script = .engine :: []) ∧ (∃ s : State, s.script = .powerOn :: []) ∧ ∃ s : State, s.script = [] :=
  ⟨⟨{ State.reset with script := [.host (.cmd 0), .engine] }, rfl, rfl⟩, ⟨{ State.reset with script := [.engine] }, rfl⟩,
    ⟨{ State.reset with script := [.powerOn] }, rfl⟩, ⟨State.reset, rfl⟩⟩

/-- BusErrorExactlyOnIllegalRequests: requests on both sides of each boundary. -/
theorem witness_requests :
    LegalRequest { kind := .read, off := 0x0E8, size := 4, wdata := 0 } ∧
      LegalRequest { kind := .write, off := 0x1000, size := 4, wdata := 0 } ∧
      LegalRequest { kind := .read, off := 0x1FFC, size := 4, wdata := 0 } ∧
      ¬ LegalRequest { kind := .read, off := 0x0EC, size := 4, wdata := 0 } ∧
      ¬ LegalRequest { kind := .write, off := 0x0FFC, size := 4, wdata := 0 } ∧
      ¬ LegalRequest { kind := .read, off := 0x1FFD, size := 4, wdata := 0 } ∧
      ¬ LegalRequest { kind := .read, off := 0x000, size := 1, wdata := 0 } := by
  simp [LegalRequest, RegisterOffset]

/-- HDataWriteStoresOneEntry, HAddrAndHDataReads: RUN; H_ADDR at P_H_MAX; H_ADDR at the last entry; an unlisted entry. -/
theorem witness_hData :
    (running []).mode = .run testCfg ∧
      ((∀ c, State.reset.mode ≠ .run c) ∧
        (State.par { State.reset with hAddr := 0x8000 }).hMax ≤ (0x8000#16).toNat) ∧
      (0x7FFF#16).toNat < State.reset.par.hMax ∧ ∀ e ∈ State.reset.hmem, e.1 ≠ 0x7FFF :=
  ⟨rfl, ⟨(fun _ h => by cases h), by decide⟩, by decide, (fun e he => by cases he)⟩

/-- SampleWriteIsWholeOrDropped: IDLE, CFG_ERROR; READY and RUN with just too little room and with just enough. -/
theorem witness_sampleWrite :
    State.reset.mode = .idle ∧ State.mode { State.reset with mode := .cfgError } = .cfgError ∧
      (let c := { testCfg with demodCfg := 0x40262108 }
       let s : State := { State.reset with par := { Params.default with sampDepth := 1 }, mode := .ready c }
       s.mode = .ready c ∧ s.par.sampDepth - s.sampFifo.length < samplesPerWord c.fmt) ∧
      (let s : State := { State.reset with par := { Params.default with sampDepth := 1 }, mode := .run testCfg }
       s.mode = .run testCfg ∧ samplesPerWord testCfg.fmt ≤ s.par.sampDepth - s.sampFifo.length) := by
  refine ⟨rfl, rfl, ⟨rfl, by decide⟩, rfl, by decide⟩

/-- FifoPortReads: no packet; a packet with a word to come; a packet at its last word. -/
theorem witness_packets :
    State.reset.pktFifo = [] ∧
      (let s : State := { State.reset with pktFifo := [[1, 2, 3, 4, 5]], pkw := 2 }
       s.pktFifo = [1, 2, 3, 4, 5] :: [] ∧ s.rdWord + 1 ≠ s.pkw) ∧
      (let s : State := { State.reset with pktFifo := [[1, 2, 3, 4, 5]], pkw := 2, rdWord := 1 }
       s.pktFifo = [1, 2, 3, 4, 5] :: [] ∧ s.rdWord + 1 = s.pkw) := by
  decide

/-- SampleAndPacketWordFormats, the last clause: a K that is a multiple of 8. -/
theorem witness_kInfo : testCfg.kInfo % 8 = 0 ∧ testCfg.kInfo = 24 := by decide

/-- CommandsRefusedByState, CommandsComplete: a state in each STATE. -/
theorem witness_states :
    State.reset.mode = .idle ∧ State.mode { State.reset with mode := .cfgError } = .cfgError ∧
      ready.mode = .ready testCfg ∧ (running []).mode = .run testCfg :=
  ⟨rfl, rfl, rfl, rfl⟩

set_option maxRecDepth 100000 in
/-- ConfigurePassesOrReports: RUN; a state where validation passes, and one where it does not. -/
theorem witness_configure :
    (running []).mode = .run testCfg ∧
    ((∀ c, idle.mode ≠ .run c) ∧ idle.validate idle.shadow = 0) ∧
      (∀ c, State.reset.mode ≠ .run c) ∧ State.reset.validate State.reset.shadow ≠ 0 :=
  ⟨rfl, ⟨(fun _ h => by cases h), test_validate_passes⟩, (fun _ h => by cases h), by decide⟩

/-- GraphRowsAreEntryRuns: a list whose last entry has END = 1, with a row before and an entry of that row that is not its last. -/
theorem witness_closedRows :
    (∀ e, [0x00000001#32, 0x80000003#32].getLast? = some e → entryEnd e = true) ∧
      0 < (graphRows [0x00000001#32, 0x80000003#32]).length ∧ 0x00000001#32 ∈ [0x00000001#32, 0x80000003#32].dropLast := by
  refine ⟨fun e h => ?_, by decide, by decide⟩
  cases h
  decide

/-- OnlyCommandsAndHDataChangeState: a command and an H_DATA write that change STATE. -/
theorem witness_stateChange :
    (∃ t, exec .start ready = .next t ∧ t.mode ≠ ready.mode) ∧ ∃ t, exec (.wrHData 0) ready = .next t ∧ t.mode ≠ ready.mode :=
  ⟨⟨_, rfl, by decide⟩, ⟨_, rfl, by decide⟩⟩

/-- OneErrBitPerAccess: an access that raises an ERR bit. -/
theorem witness_errRaised : ∃ t, runHost (.cmd 8) State.reset = .next t ∧ ErrRaised State.reset t 0 :=
  ⟨_, rfl, by constructor <;> decide⟩

/-- ReadsHaveNoSideEffect: a read of a register, and of H_DATA with H_ADDR below P_H_MAX. -/
theorem witness_reads :
    (let r : Request := { kind := .read, off := 0x070, size := 4, wdata := 0 }
     r.kind = .read ∧ LegalRequest r ∧ r.off.toNat ≠ 0x074 ∧ r.off.toNat ≠ 0x058 ∧ ∃ t, runHost (.bus r) State.reset = .next t) ∧
    (let r : Request := { kind := .read, off := 0x058, size := 4, wdata := 0 }
     let s : State := { State.reset with hAddr := 0x7FFF }
     r.kind = .read ∧ LegalRequest r ∧ r.off.toNat ≠ 0x074 ∧ s.hAddr.toNat < s.par.hMax ∧ ∃ t, runHost (.bus r) s = .next t) := by
  refine ⟨⟨rfl, ?_, by decide, by decide, _, rfl⟩, rfl, ?_, by decide, by decide, _, rfl⟩
  · simp [LegalRequest, RegisterOffset]
  · simp [LegalRequest, RegisterOffset]

/-- EngineStepsExactlyWhenEnabled: a full block, and one sample too few. -/
theorem witness_engine :
    (running zeroBlock).engineEnabled = true ∧ (running zeroBlock).mode = .run testCfg ∧
      (running zeroBlock.tail).engineEnabled = false := by
  decide +kernel

/-- SineAndWindowRanges, BinPowersFitSpecMem: the ends of the range of L, samples at the ends of their range, a block as long as
the FFT and one longer, and the first and the last butterfly of 64 points. -/
theorem witness_spectrum :
    (6 ≤ 6 ∧ 6 ≤ 10 ∧ 63 < 2 ^ 6) ∧ (6 ≤ 10 ∧ 10 ≤ 10 ∧ 1023 < 2 ^ 10) ∧ 6 ≤ testCfg.log2Nf ∧ testCfg.log2Nf ≤ 10 ∧
      (∀ z ∈ [(⟨-32768, 32767⟩ : Cplx), ⟨32767, -32768⟩], -32768 ≤ z.re ∧ z.re ≤ 32767 ∧ -32768 ≤ z.im ∧ z.im ≤ 32767) ∧
      (64 ≤ (List.replicate 64 Cplx.zero).length ∧ 64 ≤ (List.replicate 65 Cplx.zero).length ∧ 63 < 64) ∧
      (1 ≤ 1 ∧ 1 ≤ 6 ∧ 2 ^ 1 ∣ 0 ∧ 0 < 2 ^ 6 ∧ 0 < 2 ^ (1 - 1)) ∧ 1 ≤ 6 ∧ 6 ≤ 6 ∧ 2 ^ 6 ∣ 0 ∧ 0 < 2 ^ 6 ∧ 31 < 2 ^ (6 - 1) := by
  decide

/-- ToneSearchFindsFirstMaxima: a window as narrow as the guard allows, W = 2G + 1. -/
theorem witness_window : (let c := { testCfg with acqCfg := 0x30070000#32 }
    2 * c.toneGuard + 1 ≤ c.acqHalf ∧ c.acqHalf = 7) := by
  decide

/-- SmoothingMovesTowardMeasurement: the ends of the range of a measurement. -/
theorem witness_measurement :
    (-(2 ^ 31) ≤ (-(2 ^ 31) : Int) ∧ (-(2 ^ 31) : Int) < 2 ^ 31) ∧ ((2 ^ 31 - 1 : Int) < 2 ^ 31) ∧
      (0x80000000#32).toInt ≤ (0x7FFFFFFF#32).toInt ∧ (-(2 ^ 31) : Int) ≤ 2 ^ 31 - 1 := by
  decide

/-- MixerPhaseIsContinuous, SoftBitsAreNormalizedAndBounded: a place in a block, and one in a list of instants. -/
theorem witness_places :
    1 < [(⟨1, 2⟩ : Cplx), ⟨3, 4⟩].length ∧ 1 < [(0 : Int), 8].length ∧ softBits testCfg [3] [0] [-8] ≠ [] := by
  decide

/-- MatchedFilterIntegratesOneSymbol, TimingPhaseIsFirstMaximum: a history and a block of the right lengths, n at both ends. -/
theorem witness_filter :
    (let c := { testCfg with nsym := 2 }
     (List.replicate 16 Cplx.zero).length = 2 * c.os ∧ (List.replicate 16 Cplx.zero).length = c.symbols * c.os ∧ 0 < c.os ∧
       -(c.os : Int) ≤ -8 ∧ (-8 : Int) < ((c.symbols * c.os : Nat) : Int) ∧ (15 : Int) < ((c.symbols * c.os : Nat) : Int)) := by
  decide

/-- EmissionBounds: LAST at both ends of its range and at its initial value. -/
theorem witness_emission :
    testCfg.os % 2 = 0 ∧ 4 ≤ testCfg.os ∧ 2 ≤ testCfg.symbols ∧ 7 < testCfg.os ∧
      ∀ last ∈ [(-8 : Int), -5, -1], -(testCfg.os : Int) ≤ last ∧ last ≤ -1 := by
  decide

/-- BlockEndCountsAndSnapshots: BSS where a snapshot is due with STATS_DIV = 2, and where it is not. -/
theorem witness_snapshot :
    (let c := { testCfg with statsCfg := 0x00020004#32 }
     (c.statsDiv ≠ 0 ∧ ((1#32) + 1).toNat % c.statsDiv = 0) ∧ ¬ (c.statsDiv ≠ 0 ∧ ((0#32) + 1).toNat % c.statsDiv = 0)) := by
  decide

/-- WindowShiftsInEveryBit, DistanceCountsFlippedBits: a unique word of the greatest length, every bit flipped. -/
theorem witness_flips :
    (let c := { testCfg with uwCfg := 0x00020240#32, uwHi := 0x12345678#32 }
     let flips : BitVec 64 := BitVec.allOnes 64
     let fr := synced ((c.uniqueWord &&& BitVec.ofNat 64 (2 ^ c.luw - 1)) ^^^ flips) .uw 0 0 []
     c.luw ≤ 64 ∧ c.luw = 64 ∧ flips.toNat < 2 ^ c.luw ∧
       fr.win = (c.uniqueWord &&& BitVec.ofNat 64 (2 ^ c.luw - 1)) ^^^ flips) := by
  decide +kernel

/-- SearchingAcquiresWithinTolerance: the filling bit at the tolerance, and one flip beyond it. -/
theorem witness_searching :
    (let fr := Framer.shiftIn testCfg { framerInit with win := 0x4D66, fill := 15 } true
     framerInit.fstate = .searching ∧ fr.fill = testCfg.luw ∧ fr.distance testCfg ≤ testCfg.uwTol) ∧
    (let fr := Framer.shiftIn testCfg { framerInit with win := 0x7D67, fill := 15 } true
     ¬ (fr.fill = testCfg.luw ∧ fr.distance testCfg ≤ testCfg.uwTol)) := by
  decide +kernel

/-- CodewordIsCollectedThenDecoded: the last bit of a codeword, and the one before it. -/
theorem witness_codeword :
    (let fr := synced 0 .cw 47 0 (List.replicate 47 50)
     fr.fstate = .synchronized ∧ fr.phase = .cw ∧ fr.cwBuf.length = fr.cnt ∧ fr.cnt + 1 = testCfg.nCw) ∧
    (let fr := synced 0 .cw 46 0 (List.replicate 46 50)
     fr.fstate = .synchronized ∧ fr.phase = .cw ∧ fr.cwBuf.length = fr.cnt ∧ fr.cnt + 1 ≠ testCfg.nCw) := by
  decide

/-- GapAndMarkerAreTracked, the gap: its last bit, and one before it. -/
theorem witness_gap :
    (let c := { testCfg with frameGap := 2#32 }
     (synced 0 .gap 1 0 []).cnt + 1 = c.gapBits ∧ (synced 0 .gap 0 0 []).cnt + 1 ≠ c.gapBits ∧
       (synced 0 .gap 1 0 []).phase = .gap ∧ (synced 0 .gap 1 0 []).fstate = .synchronized) := by
  decide

/-- GapAndMarkerAreTracked, the marker: a bit before the last, a match at the tolerance, a miss with the flywheel, the miss that
loses sync. -/
theorem witness_marker :
    (synced 0 .uw 14 0 []).cnt + 1 ≠ testCfg.luw ∧
      (let fr := synced 0x4D66 .uw 15 0 []
       fr.phase = .uw ∧ fr.cnt + 1 = testCfg.luw ∧ (fr.shiftIn testCfg true).distance testCfg ≤ testCfg.uwTol) ∧
      (let fr := synced 0x7D67 .uw 15 0 []
       fr.cnt + 1 = testCfg.luw ∧ testCfg.uwTol < (fr.shiftIn testCfg true).distance testCfg ∧
         fr.miss + 1 < testCfg.lossThresh) ∧
      (let fr := synced 0x7D67 .uw 15 1 []
       fr.cnt + 1 = testCfg.luw ∧ testCfg.uwTol < (fr.shiftIn testCfg true).distance testCfg ∧
         testCfg.lossThresh ≤ fr.miss + 1) := by
  decide +kernel

/-- CheckUpdateIsMinSum: a row of the least degree with messages at both bounds, and the greatest scale; a message for each edge
of the three-check code, the last of its variables, one edge on it, and channel values at both bounds. -/
theorem witness_row :
    (2 ≤ [(-127 : Int), 127].length ∧ 8 ≤ 8 ∧ 1 < [(-127 : Int), 127].length ∧
      ∀ x ∈ [(-127 : Int), 127], -127 ≤ x ∧ x ≤ 127) ∧
    (let r : List (List Int) := [[-127, 127, 0], [1, 2, 3], [0, 0, -127]]
     let l : List Int := [-127, 127, 0, 0, 0, 5]
     r.map List.length = threeChecks.map List.length ∧ 5 < l.length ∧ threeChecks.flatten.count 5 ≤ 1 ∧
       (∀ x ∈ l, -127 ≤ x ∧ x ≤ 127) ∧ (∀ x ∈ r.flatten, -127 ≤ x ∧ x ≤ 127) ∧
       (r.getD 2 []).length = (threeChecks.getD 2 []).length ∧ 2 < (threeChecks.getD 2 []).length) := by
  decide

/-- DecoderTerminatesWithinMaxIt: a decode at iteration 0, a later success, and a failure. -/
theorem witness_decodes :
    syndromeZero threeChecks ([0, 0, 0, 0, 0, 0].map fun x : Int => decide (x < 0)) = true ∧
      (ldpcDecode threeChecks 5 8 0 [5, -20, 7, 7, -2, 7]).success = true ∧
      (ldpcDecode threeChecks 5 6 1 [5, -20, 7, 7, -2, 7]).success = false := by
  decide +kernel

/-- OutcomeGatePushesCheckedPackets, CrcOfWholePacketIsZero: a packet that passes, one that fails, a failed decode, and a place
in a packet. -/
theorem witness_gate :
    (let bits := "010110100001101001001111".toList.map (· == '1')
     crcOk (assemblePacket testCfg.pktBytes bits) = true ∧ 2 ≤ (assemblePacket testCfg.pktBytes bits).length) ∧
      crcOk (assemblePacket testCfg.pktBytes []) = false ∧
      DecodeResult.success { success := false, iters := 5, bits := [] } = false ∧ 2 < 3 ∧ 7 < 8 := by
  decide +kernel

set_option maxRecDepth 100000 in
/-- The invariant's parts, for a core in RUN with one block of samples waiting: what the statements about Inv suppose. -/
theorem witness_inv : (running zeroBlock).Inv where
  legal := by decide
  masked := ⟨(by unfold CfgRegs.Masked; decide), (fun c h => by cases h; unfold CfgRegs.Masked; decide)⟩
  memory := ⟨by decide +kernel, by decide +kernel⟩
  valid := fun c h => by cases h; exact test_validate_passes
  fifos := by unfold State.FifosBounded; decide +kernel
  checked := fun pkt h => by cases h
  sized := ⟨(fun pkt h => by cases h), rfl⟩
  spectrum := ⟨rfl, by decide⟩
  engine := fun c h => by
    cases h
    exact ⟨by unfold Demod.Ok; decide, ⟨by decide, by decide, by decide, by decide, rfl, rfl, rfl, rfl⟩, by decide⟩

/-- StepKeepsInv, StepKeepsMemoryAndReservedBits, StepKeepsPacketsChecked, StepKeepsActiveConfigValid: the state above has a
step. -/
theorem witness_step : (running zeroBlock).Inv ∧ ∃ t, step (running zeroBlock) = .next t := ⟨witness_inv, _, rfl⟩

/-- BlockPushesAtMostPmaxPackets: the state above is in RUN with a block of samples. -/
theorem witness_block :
    (running zeroBlock).mode = .run testCfg ∧ testCfg.symbols * testCfg.os ≤ (running zeroBlock).sampFifo.length := by
  decide +kernel

/-- AllZeroStreamYieldsNoPacket: a core in RUN that has been fed zeros. -/
theorem witness_allZero : (running zeroBlock).AllZero :=
  ⟨fun _ h => (List.mem_replicate.mp h).2, fun _ h => (List.mem_replicate.mp h).2, fun _ h => (List.mem_replicate.mp h).2,
    fun _ h => by cases h⟩

end Sys2Proof.Tests
end

section
/-! SUPPORT. What a host access can do, once for all the instructions (R103, R500, R900), and what no turn changes: the build-time
parameters and the turns still to come, which are no state of the core (logs 1, 8). -/

namespace Sys2Proof.Machine

/-! ### What a host access can do -/

/-- What a host access makes of `s` before its OKAY answer stands on the port: nothing, an ERR flag set, a command performed, or
the effect of one of the ports that are not read-only. -/
inductive HostEffect (s : State) : State → Prop
  | none : HostEffect s s
  | setErr (e : ErrFlag) : HostEffect s (s.setErr e)
  | command (k : Command) : HostEffect s (performCommand k s)
  | clearErr (w : Word) : HostEffect s (s.clearErr w)
  | clearIrq (w : Word) : HostEffect s (s.clearIrq w)
  | irqEnable (b : BitVec 5) : HostEffect s { s with irqEnable := b }
  | shadow (c : CfgRegs) : HostEffect s (s.writeShadow c)
  | hAddr (a : BitVec 16) : HostEffect s { s with hAddr := a }
  | hData (w : Word) : HostEffect s (s.writeHData w)
  | samples (w : Word) : HostEffect s (s.writeSampleData w)
  | packet : HostEffect s s.advancePacket

/-- The state after a host access: an effect answered with OKAY, or the bus error (R204, R900). -/
inductive HostAccess (s : State) : State → Prop
  | read {t : State} (h : HostEffect s t) (v : Word) : HostAccess s (t.answerRead v)
  | write {t : State} (h : HostEffect s t) : HostAccess s t.answerWrite
  | busError (a : Access) : HostAccess s (s.busError a)

/-- A CMD word performs its command, or sets ERR.CMD_ILLEGAL (R500). -/
theorem executeCommand_effect (w : Word) (s : State) : HostEffect s (executeCommand w s) := by
  unfold executeCommand
  split
  · exact .command _
  · exact .setErr _

/-- A read of H_DATA answers with the entry, or sets ERR.H_RANGE (R412). -/
theorem execRdHData_access (s : State) : ∃ t, execRdHData s = .next t ∧ HostAccess s t := by
  unfold execRdHData
  split
  · exact ⟨_, rfl, .read (.setErr _) _⟩
  · exact ⟨_, rfl, .read .none _⟩

/-- A read of PKT_DATA sets ERR.PKT_UNDERFLOW, or moves on in the oldest packet (R430). -/
theorem execRdPktData_access (s : State) : ∃ t, execRdPktData s = .next t ∧ HostAccess s t := by
  unfold execRdPktData
  split
  · exact ⟨_, rfl, .read (.setErr _) _⟩
  · exact ⟨_, rfl, .read .packet _⟩

/-- Every instruction has a next state, which is that of a host access (R950). -/
theorem exec_access (i : Instr) (s : State) : ∃ t, exec i s = .next t ∧ HostAccess s t := by
  cases i with
  | nop | softReset | configure | start | stop | resync | clearCounters | flushPackets =>
    exact ⟨_, rfl, .write (.command _)⟩
  | cmdIllegal => exact ⟨_, rfl, .write (.setErr _)⟩
  | wrCmd w => exact ⟨_, rfl, .write (executeCommand_effect w s)⟩
  -- reads without side effect
  | rdId | rdVersion | rdCmd | rdStatus | rdErr | rdCfgErr | rdIrqStatus | rdIrqEnable
  | rdFsHz | rdRsHz | rdDemodCfg | rdNsym | rdAcqCfg | rdStatsCfg | rdUwCfg | rdUwLo | rdUwHi | rdFrameGap | rdLdpcNk
  | rdLdpcAlg | rdHLen | rdHAddr | rdSampleData | rdSampCount | rdSampFree | rdPktCount | rdPktWords
  | rdCntBlocks | rdCntBits | rdCntSyncAcq | rdCntSyncLoss | rdCntUwMiss | rdCntFrames | rdCntFecFail | rdCntCrcFail
  | rdCntPktOk | rdCntLowSignal | rdCntSampDrop | rdLastDecode | rdLastUw
  | rdStSeq | rdStF0 | rdStF1 | rdStTiming | rdStNout | rdStSig | rdStNoise | rdStEavg | rdStFlags | rdStPeaks | rdStBlock
  | rdSpec =>
    exact ⟨_, rfl, .read .none _⟩
  | rdHData => exact execRdHData_access s
  | rdPktData => exact execRdPktData_access s
  -- ignored writes (R401)
  | wrId | wrVersion | wrStatus | wrCfgErr | wrSampCount | wrSampFree | wrPktCount | wrPktData | wrPktWords
  | wrCntBlocks | wrCntBits | wrCntSyncAcq | wrCntSyncLoss | wrCntUwMiss | wrCntFrames | wrCntFecFail | wrCntCrcFail
  | wrCntPktOk | wrCntLowSignal | wrCntSampDrop | wrLastDecode | wrLastUw
  | wrStSeq | wrStF0 | wrStF1 | wrStTiming | wrStNout | wrStSig | wrStNoise | wrStEavg | wrStFlags | wrStPeaks | wrStBlock
  | wrSpec =>
    exact ⟨_, rfl, .write .none⟩
  | wrErr => exact ⟨_, rfl, .write (.clearErr _)⟩
  | wrIrqStatus => exact ⟨_, rfl, .write (.clearIrq _)⟩
  | wrIrqEnable => exact ⟨_, rfl, .write (.irqEnable _)⟩
  | wrFsHz | wrRsHz | wrDemodCfg | wrNsym | wrAcqCfg | wrStatsCfg | wrUwCfg | wrUwLo | wrUwHi | wrFrameGap | wrLdpcNk
  | wrLdpcAlg | wrHLen =>
    exact ⟨_, rfl, .write (.shadow _)⟩
  | wrHAddr => exact ⟨_, rfl, .write (.hAddr _)⟩
  | wrHData => exact ⟨_, rfl, .write (.hData _)⟩
  | wrSampleData => exact ⟨_, rfl, .write (.samples _)⟩
  | reserved05C | reserved06C | reserved07C | reserved0B4 | reserved0B8 | reserved0BC | reserved0EC | reserved0F0
  | reserved100 | reserved200 | reserved400 | reserved800 | misaligned1 | misaligned2 | misaligned3 =>
    exact ⟨_, rfl, .busError _⟩

/-- Every host operation has a next state, which is that of a host access (R204, R900). -/
theorem runHost_access (op : HostOp) (s : State) : ∃ t, runHost op s = .next t ∧ HostAccess s t := by
  rcases runHost_cases op s with ⟨i, -, h⟩ | ⟨r, -, -, h⟩ <;> rw [h]
  · exact exec_access i s
  · exact ⟨_, rfl, .busError _⟩

/-- A host access leaves an answer on the port (R204). -/
theorem HostAccess.answered {s t : State} (h : HostAccess s t) : ∃ r, t.reply = some r := by
  cases h with
  | read | write => exact ⟨_, rfl⟩
  | busError a => cases a <;> exact ⟨_, rfl⟩

/-! ### What no turn changes -/

/-- `t` has the build-time parameters and the script of `s`. -/
structure SameSurroundings (s t : State) : Prop where
  par : t.par = s.par
  script : t.script = s.script

/-- One change after another. -/
theorem SameSurroundings.trans {s t u : State} (h : SameSurroundings s t) (k : SameSurroundings t u) : SameSurroundings s u :=
  ⟨k.par.trans h.par, k.script.trans h.script⟩

/-- A command keeps the surroundings; SOFT_RESET too (R1002). -/
theorem commandEffect_surroundings (k : Command) (s : State) : SameSurroundings s (commandEffect k s) := by
  cases k with
  | nop | softReset | resync | clearCounters | flushPackets => exact ⟨rfl, rfl⟩
  | configure =>
    rcases s.configure_cases with ⟨-, h⟩ | ⟨-, h⟩ <;> rw [commandEffect, h] <;> exact ⟨rfl, rfl⟩
  | start =>
    rcases s.start_cases with ⟨c, -, h⟩ | ⟨-, h⟩ <;> rw [commandEffect, h] <;> exact ⟨rfl, rfl⟩
  | stop =>
    rcases s.stop_cases with ⟨c, -, h⟩ | ⟨-, h⟩ <;> rw [commandEffect, h] <;> exact ⟨rfl, rfl⟩

/-- An H_DATA write keeps the surroundings (R411). -/
theorem State.writeHData_surroundings (s : State) (w : Word) : SameSurroundings s (s.writeHData w) := by
  rcases s.writeHData_cases w with ⟨-, h⟩ | ⟨-, -, h⟩ | ⟨-, -, h⟩ <;> rw [h] <;> exact ⟨rfl, rfl⟩

/-- A SAMPLE_DATA write keeps the surroundings (R420). -/
theorem State.writeSampleData_surroundings (s : State) (w : Word) : SameSurroundings s (s.writeSampleData w) := by
  rcases s.writeSampleData_cases w with ⟨-, h⟩ | ⟨c, -, h⟩ <;> rw [h]
  · exact ⟨rfl, rfl⟩
  · rcases s.acceptSampleWord_cases c w with ⟨-, h⟩ | ⟨-, h⟩ <;> rw [h] <;> exact ⟨rfl, rfl⟩

/-- What a host access does before its answer keeps the surroundings. -/
theorem HostEffect.surroundings {s t : State} (h : HostEffect s t) : SameSurroundings s t := by
  cases h with
  | none | setErr | clearErr | clearIrq | irqEnable | shadow | hAddr => exact ⟨rfl, rfl⟩
  | command k =>
    rcases performCommand_cases s k with ⟨-, h⟩ | ⟨-, h⟩ <;> rw [h]
    · exact commandEffect_surroundings k s
    · exact ⟨rfl, rfl⟩
  | hData w => exact s.writeHData_surroundings w
  | samples w => exact s.writeSampleData_surroundings w
  | packet => exact ⟨s.advancePacket_par, s.advancePacket_script⟩

/-- A host access keeps the surroundings. -/
theorem HostAccess.surroundings {s t : State} (h : HostAccess s t) : SameSurroundings s t := by
  cases h with
  | read h | write h => exact h.surroundings.trans ⟨rfl, rfl⟩
  | busError a => cases a <;> exact ⟨rfl, rfl⟩

/-- What the framer and the decoder change leaves the surroundings (R700, R822). -/
theorem FramerFrame.surroundings {s t : State} (h : FramerFrame s t) : SameSurroundings s t :=
  ⟨(congrArg State.par h.same :), (congrArg State.script h.same :)⟩

/-- The end of a block keeps the surroundings (R661). -/
theorem State.endBlock_surroundings (s : State) (c : CfgRegs) (o : BlockOut) : SameSurroundings s (s.endBlock c o) :=
  ⟨(congrArg State.par (s.endBlock_frame c o) :), (congrArg State.script (s.endBlock_frame c o) :)⟩

/-- A block step keeps the surroundings: the demodulator, the framer's run and the end of the block each do (R600). -/
theorem State.engineStep_surroundings (s : State) (c : CfgRegs) : SameSurroundings s (s.engineStep c) := by
  rw [State.engineStep_eq]
  have hframer := (State.framerBits_frame
    { s with sampFifo := s.sampFifo.drop c.blockLen, demod := (demodBlock c s.demod (s.nextBlock c)).1 } c
    (demodBlock c s.demod (s.nextBlock c)).2.soft).surroundings
  exact .trans ⟨hframer.par, hframer.script⟩ (State.endBlock_surroundings _ _ _)

/-- An engine turn keeps the surroundings (R601). -/
theorem State.engineTurn_surroundings (s : State) : SameSurroundings s s.engineTurn := by
  rcases s.engineTurn_cases with ⟨c, -, -, h⟩ | h <;> rw [h]
  · exact s.engineStep_surroundings c
  · exact ⟨rfl, rfl⟩

/-- Every step has a next state, in the surroundings of the state with the turn taken from the script (R950; log 1). -/
theorem step_next_surroundings (s : State) :
    ∃ t, step s = .next t ∧ SameSurroundings { s with script := s.script.tail } t := by
  rcases step_cases s with ⟨hs, h⟩ | ⟨rest, hs, h⟩ | ⟨rest, hs, h⟩ | ⟨op, rest, hs, h⟩ <;> rw [h, hs]
  · exact ⟨_, rfl, .trans (t := s) ⟨rfl, hs⟩ s.engineTurn_surroundings⟩
  · exact ⟨_, rfl, State.engineTurn_surroundings _⟩
  · exact ⟨_, rfl, rfl, rfl⟩
  · obtain ⟨t, ht, hacc⟩ := runHost_access op { s with script := rest }
    exact ⟨t, ht, hacc.surroundings⟩

/-- Settles O5: a step is an engine turn, a power-on reset or a host access, and every instruction is a host access. -/
theorem nothingStopsTheCore : Obligations.NothingStopsTheCore := by
  refine ⟨fun s => ?_, fun i s => ?_⟩
  · obtain ⟨t, ht, hsame⟩ := step_next_surroundings s
    exact ⟨t, ht, hsame.par, hsame.script⟩
  · obtain ⟨t, ht, hacc⟩ := exec_access i s
    obtain ⟨r, hr⟩ := hacc.answered
    exact ⟨t, r, ht, hr⟩

end Sys2Proof.Machine
end

section
/-! SUPPORT. What a step makes of the part of the state that the machine's invariant speaks of (R210, R215): one relation for a
turn's effect there, with what the turn supposes, and one for the rest of the state. -/

namespace Sys2Proof.Machine

/-! ### The part of the state that no invariant reads -/

/-- `t` has all of `s` but registers that no invariant reads: the error, interrupt and counter registers, the snapshot's ST_*,
H_ADDR, the answer on the port and the script. -/
inductive SameCore (s : State) : State → Prop
  | mk (err : BitVec 9) (cfgErr : BitVec 8) (irq : IrqSticky) (irqEnable : BitVec 5) (hAddr : BitVec 16) (cnt : Counters)
      (lastDecode : LastDecode) (lastUw : LastUw) (stats : Stats) (reply : Option Reply) (script : List Turn) :
      SameCore s { s with
        err := err, cfgErr := cfgErr, irq := irq, irqEnable := irqEnable, hAddr := hAddr, cnt := cnt
        lastDecode := lastDecode, lastUw := lastUw, stats := stats, reply := reply, script := script }

/-- An ERR flag set is no change of the core. -/
theorem SameCore.setErr (s : State) (e : ErrFlag) : SameCore s (s.setErr e) := .mk ..

/-- One change after another. -/
theorem SameCore.trans {s t u : State} (h : SameCore s t) (k : SameCore t u) : SameCore s u := by
  cases h
  cases k
  exact .mk ..

/-! ### What a turn can make of the rest -/

/-- What a turn makes of `s`, up to what `SameCore` leaves open: nothing, a command's rule where STATE allows it, a shadow write
that keeps the reserved bits 0, an accepted access of one of the ports, a power-on reset, or an enabled block step. -/
inductive CoreEffect (s : State) : State → Prop
  | none : CoreEffect s s
  | softReset : CoreEffect s s.softReset
  | configurePass (h : s.validate s.shadow = 0) : CoreEffect s s.configurePass
  | configureFail (code : Nat) : CoreEffect s (s.configureFail code)
  | start (c : CfgRegs) (h : s.mode = .ready c) :
      CoreEffect s { s with mode := .run c, demod := demodInit c.os, framer := framerInit }
  | stop (c : CfgRegs) (h : s.mode = .run c) :
      CoreEffect s { s with mode := .ready c, sampFifo := [], demod := demodInit c.os, framer := framerInit }
  | resync : CoreEffect s s.initFramer
  | flushPackets : CoreEffect s s.flushPackets
  | shadow (c : CfgRegs) (h : s.shadow.Masked → c.Masked) : CoreEffect s (s.writeShadow c)
  | storeH (w : Word) (hrun : ∀ c, s.mode ≠ .run c) (haddr : s.hAddr.toNat < s.par.hMax) : CoreEffect s (s.storeH w)
  | samples (xs : List Sample) (h : xs.length ≤ s.sampFree) : CoreEffect s (s.pushSamples xs)
  | packet (h : s.pktFifo ≠ []) : CoreEffect s s.advancePacket
  | powerOn : CoreEffect s s.powerOnReset
  | block (c : CfgRegs) (hrun : s.mode = .run c) (hsamples : c.blockLen ≤ s.sampCount) (hroom : c.pMax ≤ s.pktFree) :
      CoreEffect s (s.engineStep c)

/-- `t` comes from `s` by an effect on the core and a change outside it. -/
def CoreStep (s t : State) : Prop := ∃ u, CoreEffect s u ∧ SameCore u t

/-- An effect on the core, with a change outside it after it. -/
theorem CoreStep.of_same {s t u : State} (h : CoreStep s t) (k : SameCore t u) : CoreStep s u := by
  obtain ⟨v, hv, hsame⟩ := h
  exact ⟨v, hv, hsame.trans k⟩

/-- A legal command: its rule where STATE allows it, or an ERR flag (R500 to R541). -/
theorem performCommand_core (k : Command) (s : State) : CoreStep s (performCommand k s) := by
  rcases performCommand_cases s k with ⟨-, h⟩ | ⟨-, h⟩ <;> rw [h]
  · cases k with
    | nop => exact ⟨_, .none, .mk ..⟩
    | softReset => exact ⟨_, .softReset, .mk ..⟩
    | configure =>
      rcases s.configure_cases with ⟨hv, h⟩ | ⟨-, h⟩ <;> rw [commandEffect, h]
      · exact ⟨_, .configurePass hv, .mk ..⟩
      · exact ⟨_, .configureFail (s.validate s.shadow), .mk ..⟩
    | start =>
      rcases s.start_cases with ⟨c, hm, h⟩ | ⟨-, h⟩ <;> rw [commandEffect, h]
      · exact ⟨_, .start c hm, .mk ..⟩
      · exact ⟨_, .none, .mk ..⟩
    | stop =>
      rcases s.stop_cases with ⟨c, hm, h⟩ | ⟨-, h⟩ <;> rw [commandEffect, h]
      · exact ⟨_, .stop c hm, .mk ..⟩
      · exact ⟨_, .none, .mk ..⟩
    | resync => exact ⟨_, .resync, .mk ..⟩
    | clearCounters => exact ⟨_, .none, .mk ..⟩
    | flushPackets => exact ⟨_, .flushPackets, .mk ..⟩
  · exact ⟨_, .none, .setErr _ _⟩

/-- A CMD word performs its command, or sets ERR.CMD_ILLEGAL (R500). -/
theorem executeCommand_core (w : Word) (s : State) : CoreStep s (executeCommand w s) := by
  unfold executeCommand
  split
  · exact performCommand_core _ s
  · exact ⟨_, .none, .setErr _ _⟩

/-- An H_DATA write is refused, or stores below P_H_MAX outside RUN (R411). -/
theorem State.writeHData_core (w : Word) (s : State) : CoreStep s (s.writeHData w) := by
  rcases s.writeHData_cases w with ⟨-, h⟩ | ⟨-, -, h⟩ | ⟨hrun, haddr, h⟩ <;> rw [h]
  · exact ⟨_, .none, .setErr _ _⟩
  · exact ⟨_, .none, .setErr _ _⟩
  · exact ⟨_, .storeH w hrun haddr, .mk ..⟩

/-- A SAMPLE_DATA write is refused, dropped, or pushes what there is room for (R420). -/
theorem State.writeSampleData_core (w : Word) (s : State) : CoreStep s (s.writeSampleData w) := by
  rcases s.writeSampleData_cases w with ⟨-, h⟩ | ⟨c, -, h⟩ <;> rw [h]
  · exact ⟨_, .none, .setErr _ _⟩
  · rcases s.acceptSampleWord_cases c w with ⟨-, h⟩ | ⟨hroom, h⟩ <;> rw [h]
    · exact ⟨_, .none, .mk ..⟩
    · exact ⟨_, .samples _ ((convertSamples_length c.fmt w).trans_le hroom), .mk ..⟩

/-- A read of H_DATA answers, with or without ERR.H_RANGE (R412). -/
theorem execRdHData_core (s : State) : ∃ t, execRdHData s = .next t ∧ CoreStep s t := by
  unfold execRdHData
  split
  · exact ⟨_, rfl, _, .none, .mk ..⟩
  · exact ⟨_, rfl, _, .none, .mk ..⟩

/-- A read of PKT_DATA finds no packet, or moves on in the oldest one (R430). -/
theorem execRdPktData_core (s : State) : ∃ t, execRdPktData s = .next t ∧ CoreStep s t := by
  unfold execRdPktData
  split
  · exact ⟨_, rfl, _, .none, .mk ..⟩
  · rename_i hpkt
    exact ⟨_, rfl, _, .packet (by simp [hpkt]), .mk ..⟩

/-- A bus error is no change of the core (R900). -/
theorem State.busError_core (s : State) (a : Access) : CoreStep s (s.busError a) := by
  cases a <;> exact ⟨_, .none, .mk ..⟩

/-! ### Shadow writes keep reserved bits 0 -/

/-- Bits that a mask clears are 0 in the masked word. -/
theorem extractLsb'_and_eq_zero {m : Word} {lo len : Nat} (h : m.extractLsb' lo len = 0) (w : Word) :
    (w &&& m).extractLsb' lo len = 0 := by
  rw [BitVec.extractLsb'_and, h]
  exact BitVec.and_zero

/-- A bit that a mask clears is 0 in the masked word. -/
theorem getLsbD_and_eq_false {m : Word} {k : Nat} (h : m.getLsbD k = false) (w : Word) : (w &&& m).getLsbD k = false := by
  rw [BitVec.getLsbD_and, h, Bool.and_false]

/-- A shadow write is an effect on the core, if what it stores keeps the reserved bits 0 (R103, R302). -/
theorem exec_shadow_core {i : Instr} {s : State} {c : CfgRegs} (h : exec i s = .next (s.writeShadow c).answerWrite)
    (hc : s.shadow.Masked → c.Masked) : ∃ t, exec i s = .next t ∧ CoreStep s t :=
  ⟨_, h, _, .shadow c hc, .mk ..⟩

/-- Every instruction's effect on the core. -/
theorem exec_core (i : Instr) (s : State) : ∃ t, exec i s = .next t ∧ CoreStep s t := by
  cases i with
  | nop | softReset | configure | start | stop | resync | clearCounters | flushPackets =>
    exact ⟨_, rfl, (performCommand_core _ s).of_same (.mk ..)⟩
  | wrCmd w => exact ⟨_, rfl, (executeCommand_core w s).of_same (.mk ..)⟩
  | wrHData w => exact ⟨_, rfl, (s.writeHData_core w).of_same (.mk ..)⟩
  | wrSampleData w => exact ⟨_, rfl, (s.writeSampleData_core w).of_same (.mk ..)⟩
  | rdHData => exact execRdHData_core s
  | rdPktData => exact execRdPktData_core s
  -- shadow registers without reserved bits
  | wrFsHz | wrRsHz | wrAcqCfg | wrStatsCfg | wrUwLo | wrUwHi | wrLdpcNk => exact exec_shadow_core rfl id
  -- shadow registers with reserved bits, which the write masks
  | wrDemodCfg w => exact exec_shadow_core rfl (fun ⟨_, hrest⟩ => ⟨getLsbD_and_eq_false rfl w, hrest⟩)
  | wrNsym w =>
    exact exec_shadow_core rfl (fun ⟨hd, _, hrest⟩ => ⟨hd, extractLsb'_and_eq_zero rfl w, hrest⟩)
  | wrUwCfg w =>
    exact exec_shadow_core rfl (fun ⟨hd, hn, _, _, _, hrest⟩ =>
      ⟨hd, hn, getLsbD_and_eq_false rfl w, getLsbD_and_eq_false rfl w, extractLsb'_and_eq_zero rfl w, hrest⟩)
  | wrFrameGap w =>
    exact exec_shadow_core rfl (fun ⟨hd, hn, hu, hu', hu'', _, hrest⟩ =>
      ⟨hd, hn, hu, hu', hu'', extractLsb'_and_eq_zero rfl w, hrest⟩)
  | wrLdpcAlg w =>
    exact exec_shadow_core rfl (fun ⟨hd, hn, hu, hu', hu'', hg, _, _, hh⟩ =>
      ⟨hd, hn, hu, hu', hu'', hg, extractLsb'_and_eq_zero rfl w, extractLsb'_and_eq_zero rfl w, hh⟩)
  | wrHLen w =>
    exact exec_shadow_core rfl (fun ⟨hd, hn, hu, hu', hu'', hg, ha, ha', _⟩ =>
      ⟨hd, hn, hu, hu', hu'', hg, ha, ha', extractLsb'_and_eq_zero rfl w⟩)
  | reserved05C | reserved06C | reserved07C | reserved0B4 | reserved0B8 | reserved0BC | reserved0EC | reserved0F0
  | reserved100 | reserved200 | reserved400 | reserved800 | misaligned1 | misaligned2 | misaligned3 =>
    exact ⟨_, rfl, s.busError_core _⟩
  -- reads without side effect, ignored writes, and writes of the error, interrupt and address registers
  | _ => exact ⟨_, rfl, _, .none, .mk ..⟩

/-- Every host operation's effect on the core. -/
theorem runHost_core (op : HostOp) (s : State) : ∃ t, runHost op s = .next t ∧ CoreStep s t := by
  rcases runHost_cases op s with ⟨i, -, h⟩ | ⟨r, -, -, h⟩ <;> rw [h]
  · exact exec_core i s
  · exact ⟨_, rfl, s.busError_core _⟩

/-- An engine turn is an enabled block step, or nothing (R601). -/
theorem State.engineTurn_core (s : State) : CoreStep s s.engineTurn := by
  rcases s.engineTurn_cases with ⟨c, hrun, hen, h⟩ | h <;> rw [h]
  · obtain ⟨hsamples, hroom⟩ := (State.engineEnabled_run hrun).mp hen
    exact ⟨_, .block c hrun hsamples hroom, .mk ..⟩
  · exact ⟨_, .none, .mk ..⟩

/-- Every step, its turn taken from the script, is an effect on the core and a change outside it (R210). -/
theorem step_core {s t : State} (h : step s = .next t) : ∃ s₀, SameCore s s₀ ∧ CoreStep s₀ t := by
  rcases step_cases s with ⟨-, hs⟩ | ⟨rest, -, hs⟩ | ⟨rest, -, hs⟩ | ⟨op, rest, -, hs⟩ <;> rw [hs] at h
  · cases h
    exact ⟨s, .mk .., s.engineTurn_core⟩
  · cases h
    exact ⟨{ s with script := rest }, .mk .., State.engineTurn_core _⟩
  · cases h
    exact ⟨{ s with script := rest }, .mk .., _, .powerOn, .mk ..⟩
  · obtain ⟨u, hu, hcore⟩ := runHost_core op { s with script := rest }
    cases hu.symm.trans h
    exact ⟨{ s with script := rest }, .mk .., hcore⟩

/-- Every step keeps a property that looks at nothing outside the core and that every effect on the core keeps (R210). -/
theorem step_keeps {P : State → Prop} (hsame : ∀ s t, SameCore s t → P s → P t)
    (heffect : ∀ s t, CoreEffect s t → P s → P t) {s t : State} (h : step s = .next t) (hs : P s) : P t := by
  obtain ⟨s₀, hs₀, u, hu, ht⟩ := step_core h
  exact hsame u t ht (heffect s₀ u hu (hsame s s₀ hs₀ hs))

end Sys2Proof.Machine
end

section
/-! SUPPORT. The framer bit by bit: what one soft bit makes of the framer and pushes, that it keeps the framer's ranges (R151), and
how many packets a run of soft bits can push (R601). -/

namespace Sys2Proof.Machine

/-! ### What one soft bit does -/

/-- What a soft bit makes of the framer after the window update, with the packets it pushes (R710 to R717). -/
inductive FramerMove (c : CfgRegs) (v : Int) (fr : Framer) : List (List Byte) → Framer → Prop
  | search (hs : fr.fstate = .searching) : FramerMove c v fr [] fr
  | toCodeword (miss : Nat) (h : miss = 0 ∨ miss < c.lossThresh) :
      FramerMove c v fr [] { fr with fstate := .synchronized, phase := .cw, cnt := 0, miss := miss, cwBuf := [] }
  | collect (hs : fr.fstate = .synchronized) (hp : fr.phase = .cw) (hn : fr.cnt + 1 ≠ c.nCw) :
      FramerMove c v fr [] (fr.collect v)
  | codewordDone (hs : fr.fstate = .synchronized) (hp : fr.phase = .cw) (hn : fr.cnt + 1 = c.nCw) (pkts : List (List Byte))
      (hone : pkts.length ≤ 1) (hsize : ∀ pkt ∈ pkts, pkt.length = c.pktBytes) :
      FramerMove c v fr pkts { fr with phase := if 0 < c.gapBits then .gap else .uw, cnt := 0, cwBuf := [] }
  | gap (hs : fr.fstate = .synchronized) (hp : fr.phase = .gap) (hn : fr.cnt + 1 ≠ c.gapBits) :
      FramerMove c v fr [] { fr with cnt := fr.cnt + 1 }
  | gapDone (hs : fr.fstate = .synchronized) (hp : fr.phase = .gap) : FramerMove c v fr [] { fr with phase := .uw, cnt := 0 }
  | marker (hs : fr.fstate = .synchronized) (hp : fr.phase = .uw) (hn : fr.cnt + 1 ≠ c.luw) :
      FramerMove c v fr [] { fr with cnt := fr.cnt + 1 }
  | loseSync : FramerMove c v fr [] { fr with fstate := .searching, phase := .cw, cnt := 0, miss := 0, cwBuf := [] }

/-- A decode pushes at most one packet, of P bytes (R820, R822). -/
theorem State.decodeGate_pushes (s : State) (c : CfgRegs) (d : DecodeResult) :
    ∃ pkts : List (List Byte), (s.decodeGate c d).pktFifo = s.pktFifo ++ pkts ∧ pkts.length ≤ 1 ∧
      ∀ pkt ∈ pkts, pkt.length = c.pktBytes := by
  rcases s.decodeGate_cases c d with ⟨-, h⟩ | ⟨-, -, h⟩ | ⟨-, -, h⟩ <;> rw [h]
  · exact ⟨[], by simp⟩
  · exact ⟨[], by simp⟩
  · exact ⟨[assemblePacket c.pktBytes d.bits], by simp⟩

/-- The end of a codeword: the framer afterwards (R712). -/
theorem State.codewordDone_framer (s : State) (c : CfgRegs) :
    (s.codewordDone c).framer =
      { s.framer with phase := if 0 < c.gapBits then .gap else .uw, cnt := 0, cwBuf := [] } := by
  simp only [State.codewordDone, State.decodeCodeword, State.decodeGate_framer]

/-- A bit of the codeword is collected, or ends it (R711, R712). -/
theorem State.codewordBit_move (s : State) (c : CfgRegs) (v : Int) (hs : s.framer.fstate = .synchronized)
    (hp : s.framer.phase = .cw) :
    ∃ pkts, (s.codewordBit c v).pktFifo = s.pktFifo ++ pkts ∧ FramerMove c v s.framer pkts (s.codewordBit c v).framer := by
  by_cases hn : s.framer.cnt + 1 = c.nCw
  · have hbit : s.codewordBit c v = State.codewordDone { s with framer := s.framer.collect v } c := by
      unfold State.codewordBit
      exact if_pos hn
    rw [hbit, State.codewordDone_framer]
    obtain ⟨pkts, hpush, hone, hsize⟩ := State.decodeGate_pushes
      { s with framer := s.framer.collect v, cnt := { s.cnt with frames := s.cnt.frames + 1 } } c _
    exact ⟨pkts, hpush, .codewordDone hs hp hn pkts hone hsize⟩
  · have hbit : s.codewordBit c v = { s with framer := s.framer.collect v } := by
      unfold State.codewordBit
      exact if_neg hn
    rw [hbit]
    exact ⟨[], by simp, .collect hs hp hn⟩

/-- A bit of the marker is counted, or ends it: a match, a tolerated miss, or the loss of sync (R714 to R717). -/
theorem State.markerBit_move (s : State) (c : CfgRegs) (v : Int) (hs : s.framer.fstate = .synchronized)
    (hp : s.framer.phase = .uw) :
    ∃ pkts, (s.markerBit c).pktFifo = s.pktFifo ++ pkts ∧ FramerMove c v s.framer pkts (s.markerBit c).framer := by
  have hcases := s.markerBit_cases c
  generalize s.framer.distance c = d at hcases
  rcases hcases with ⟨hn, h⟩ | ⟨-, -, h⟩ | ⟨-, -, hm, h⟩ | ⟨-, -, -, h⟩ <;> rw [h]
  · exact ⟨[], by simp, .marker hs hp hn⟩
  · exact ⟨[], by simp, .toCodeword 0 (.inl rfl)⟩
  · exact ⟨[], by simp, .toCodeword _ (.inr hm)⟩
  · exact ⟨[], (List.append_nil _).symm, .loseSync⟩

/-- A soft bit moves the framer, after the window update, and pushes that move's packets (R701). -/
theorem State.framerBit_move (s : State) (c : CfgRegs) (v : Int) :
    ∃ pkts, (s.framerBit c v).pktFifo = s.pktFifo ++ pkts ∧
      FramerMove c v (s.framer.shiftIn c (hardBit v)) pkts (s.framerBit c v).framer := by
  unfold State.framerBit
  generalize hs1 : { s with framer := s.framer.shiftIn c (hardBit v) } = s1
  have hpkt : s.pktFifo = s1.pktFifo := hs1 ▸ rfl
  have hfr : s.framer.shiftIn c (hardBit v) = s1.framer := hs1 ▸ rfl
  rw [hpkt, hfr]
  simp only []
  split
  · rename_i hs
    rcases s1.searchBit_cases c with ⟨-, -, h⟩ | ⟨-, h⟩ <;> rw [h]
    · exact ⟨[], by simp, .toCodeword 0 (.inl rfl)⟩
    · exact ⟨[], by simp, .search hs⟩
  · rename_i hs
    unfold State.syncBit
    split
    · exact s1.codewordBit_move c v hs ‹_›
    · rename_i hp
      rcases s1.gapBit_cases c with ⟨-, h⟩ | ⟨hn, h⟩ <;> rw [h]
      · exact ⟨[], by simp, .gapDone hs hp⟩
      · exact ⟨[], by simp, .gap hs hp hn⟩
    · exact s1.markerBit_move c v hs ‹_›

/-! ### The framer's ranges -/

/-- What the checks of CONFIGURE give the engine of the active configuration (R906). -/
structure CfgRegs.Checked (c : CfgRegs) : Prop where
  os : 4 ≤ c.os
  symbols : 2 ≤ c.symbols
  log2Nf : 6 ≤ c.log2Nf ∧ c.log2Nf ≤ 10
  luw : 8 ≤ c.luw ∧ c.luw ≤ 64
  lossThresh : 0 < c.lossThresh
  kInfo : 24 ≤ c.kInfo ∧ c.kInfo % 8 = 0
  nCw : c.kInfo < c.nCw

/-- A check that passes, and those after it (R906). -/
theorem ite_check_eq_zero {p : Prop} [Decidable p] {code rest : Nat} :
    (if p then code + 1 else rest) = 0 ↔ ¬ p ∧ rest = 0 := by
  split <;> simp [*]

/-- A configuration that passes the register checks has their ranges (R906). -/
theorem checked_of_checkRegisters {p : Params} {c : CfgRegs} (h : checkRegisters p c = 0) : c.Checked := by
  simp only [checkRegisters, ite_check_eq_zero] at h
  obtain ⟨h1, -, -, -, h5, h6, -, -, -, h10, -, h12, h13, -⟩ := h
  constructor <;> omega

/-- A configuration that passes validation has the ranges of the register checks (R906). -/
theorem State.checked_of_validate {s : State} {c : CfgRegs} (h : s.validate c = 0) : c.Checked := by
  unfold State.validate at h
  split at h
  · exact checked_of_checkRegisters ‹_›
  · exact absurd h ‹_›

/-- FRAMER_INIT is in its ranges (R151). -/
theorem framerInit_ok {c : CfgRegs} (hc : c.Checked) : framerInit.Ok c :=
  ⟨Nat.two_pow_pos _, Nat.zero_le _, hc.lossThresh, by simp [framerInit], rfl, rfl, rfl, rfl⟩

/-- The window update keeps the framer's ranges (R701). -/
theorem Framer.Ok.shiftIn {c : CfgRegs} {fr : Framer} (h : fr.Ok c) (hc : c.Checked) (b : Bool) : (fr.shiftIn c b).Ok c := by
  obtain ⟨-, -, hmiss, hbuf, hphase⟩ := h
  have hpow : 2 ^ c.luw ≤ 2 ^ 64 := Nat.pow_le_pow_right (by decide) hc.luw.2
  have hmod : (2 * fr.win.toNat + b.toNat) % 2 ^ c.luw < 2 ^ c.luw := Nat.mod_lt _ (Nat.two_pow_pos _)
  refine ⟨?_, Nat.min_le_right _ _, hmiss, hbuf, hphase⟩
  simp only [Framer.shiftIn, BitVec.toNat_ofNat]
  exact (Nat.mod_le _ _).trans_lt hmod

/-- The packets of a move have P bytes (R820). -/
theorem FramerMove.pktBytes {c : CfgRegs} {v : Int} {fr fr' : Framer} {pkts : List (List Byte)}
    (h : FramerMove c v fr pkts fr') : ∀ pkt ∈ pkts, pkt.length = c.pktBytes := by
  cases h with
  | codewordDone _ _ _ _ _ hsize => exact hsize
  | _ => simp

/-- Every move of the framer keeps its ranges (R151, R710 to R717). -/
theorem FramerMove.ok {c : CfgRegs} {v : Int} {fr fr' : Framer} {pkts : List (List Byte)} (h : FramerMove c v fr pkts fr')
    (hc : c.Checked) (hv : -127 ≤ v ∧ v ≤ 127) (hok : fr.Ok c) : fr'.Ok c := by
  have hnCw := hc.nCw
  have hluw := hc.luw
  have hloss := hc.lossThresh
  obtain ⟨hwin, hfill, hmiss, hbuf, hphase⟩ := hok
  cases h with
  | search => exact ⟨hwin, hfill, hmiss, hbuf, hphase⟩
  | toCodeword miss h => exact ⟨hwin, hfill, by simp only; omega, by simp, by simp only; omega, rfl⟩
  | collect hs hp hn =>
    rw [hs, hp] at hphase
    obtain ⟨hcnt, hlen⟩ := hphase
    refine ⟨hwin, hfill, hmiss, ?_, ?_⟩
    · intro w hw
      rcases List.mem_append.mp hw with hw | hw
      · exact hbuf w (List.mem_of_mem_take hw)
      · exact List.mem_singleton.mp hw ▸ hv
    · simp only [Framer.collect, hs, hp, List.length_append, List.length_take, List.length_singleton]
      omega
  | codewordDone hs hp hn =>
    refine ⟨hwin, hfill, hmiss, by simp, ?_⟩
    by_cases hgap : 0 < c.gapBits
    · simp only [hs, if_pos hgap]
      exact ⟨hgap, trivial⟩
    · simp only [hs, if_neg hgap]
      exact ⟨by omega, trivial⟩
  | gap hs hp hn =>
    rw [hs, hp] at hphase
    refine ⟨hwin, hfill, hmiss, hbuf, ?_⟩
    simp only [hs, hp]
    exact ⟨by omega, hphase.2⟩
  | gapDone hs hp =>
    rw [hs, hp] at hphase
    refine ⟨hwin, hfill, hmiss, hbuf, ?_⟩
    simp only [hs]
    exact ⟨by omega, hphase.2⟩
  | marker hs hp hn =>
    rw [hs, hp] at hphase
    refine ⟨hwin, hfill, hmiss, hbuf, ?_⟩
    simp only [hs, hp]
    exact ⟨by omega, hphase.2⟩
  | loseSync => exact ⟨hwin, hfill, hloss, by simp, rfl, rfl, rfl, rfl⟩

/-- A run of soft bits keeps the framer's ranges (R151, R652). -/
theorem State.framerBits_framerOk {c : CfgRegs} (hc : c.Checked) {soft : List Int} (hsoft : ∀ v ∈ soft, -127 ≤ v ∧ v ≤ 127)
    {s : State} (h : s.framer.Ok c) : (s.framerBits c soft).framer.Ok c := by
  induction soft generalizing s with
  | nil => exact h
  | cons v soft ih =>
    obtain ⟨pkts, -, hmove⟩ := s.framerBit_move c v
    have hbit : (s.framerBit c v).framer.Ok c := hmove.ok hc (hsoft v List.mem_cons_self) (h.shiftIn hc _)
    exact ih (fun w hw => hsoft w (List.mem_cons_of_mem _ hw)) hbit

/-! ### How many packets a run of soft bits pushes -/

/-- The soft bits of the next packet that are already in: CNT while a codeword is collected. -/
def Framer.progress (fr : Framer) : Nat :=
  match fr.fstate, fr.phase with
  | .synchronized, .cw => fr.cnt
  | _, _ => 0

/-- A packet takes N_CW soft bits: each bit adds at most one to the progress, and a push uses N_CW of it up. -/
theorem FramerMove.progress_le {c : CfgRegs} {v : Int} {fr fr' : Framer} {pkts : List (List Byte)}
    (h : FramerMove c v fr pkts fr') : c.nCw * pkts.length + fr'.progress ≤ fr.progress + 1 := by
  cases h with
  | search => simp
  | toCodeword => simp [Framer.progress]
  | collect hs hp => simp [Framer.progress, Framer.collect, hs, hp]
  | codewordDone hs hp hn pkts hone =>
    have hpush : c.nCw * pkts.length ≤ c.nCw * 1 := Nat.mul_le_mul_left _ hone
    have hdone : Framer.progress { fr with phase := if 0 < c.gapBits then .gap else .uw, cnt := 0, cwBuf := [] } = 0 := by
      simp only [Framer.progress]
      split <;> rfl
    have hbefore : fr.progress = fr.cnt := by simp [Framer.progress, hs, hp]
    omega
  | gap hs hp => simp [Framer.progress, hs, hp]
  | gapDone hs hp => simp [Framer.progress, hs]
  | marker hs hp => simp [Framer.progress, hs, hp]
  | loseSync => simp [Framer.progress]

/-- The packets of a run of soft bits: P bytes each, and one for every N_CW bits of progress at most (R711, R822). -/
theorem State.framerBits_pushes (s : State) (c : CfgRegs) (soft : List Int) :
    ∃ pkts : List (List Byte), (s.framerBits c soft).pktFifo = s.pktFifo ++ pkts ∧ (∀ pkt ∈ pkts, pkt.length = c.pktBytes) ∧
      c.nCw * pkts.length + (s.framerBits c soft).framer.progress ≤ s.framer.progress + soft.length := by
  induction soft generalizing s with
  | nil => exact ⟨[], by simp [State.framerBits]⟩
  | cons v soft ih =>
    obtain ⟨pkts, hpush, hmove⟩ := s.framerBit_move c v
    obtain ⟨more, hmore, hsize, hcount⟩ := ih (s.framerBit c v)
    have hstep : c.nCw * pkts.length + (s.framerBit c v).framer.progress ≤ s.framer.progress + 1 := hmove.progress_le
    refine ⟨pkts ++ more, by rw [← List.append_assoc, ← hpush]; exact hmore, ?_, ?_⟩
    · intro pkt hpkt
      rcases List.mem_append.mp hpkt with hpkt | hpkt
      · exact hmove.pktBytes pkt hpkt
      · exact hsize pkt hpkt
    · rw [List.length_append, List.length_cons, Nat.mul_add]
      have : s.framerBits c (v :: soft) = (s.framerBit c v).framerBits c soft := rfl
      rw [this]
      omega

/-- A framer in its ranges is short of the next packet by one soft bit at least (R151). -/
theorem Framer.Ok.progress_lt {c : CfgRegs} {fr : Framer} (h : fr.Ok c) (hc : c.Checked) : fr.progress < c.nCw := by
  have hnCw := hc.nCw
  obtain ⟨-, -, -, -, hphase⟩ := h
  unfold Framer.progress
  split
  · simp_all
  · omega

end Sys2Proof.Machine
end

section
/-! SUPPORT. The block step within the ranges of R150: the symbol instants of a block (R642, R643), how many packets the block can
push (R601), and what it leaves unchanged (R600). -/

namespace Sys2Proof.Machine

/-! ### The symbol instants -/

/-- The instants, with the candidates as one list from LAST + OS/2 + 1 up to N (R642). -/
theorem symbolInstants_eq (c : CfgRegs) (last : Int) (p : Nat) :
    symbolInstants c last p =
      ((List.range ((c.blockLen : Int) - (last + ((c.os / 2 : Nat) : Int) + 1)).toNat).map fun (n : Nat) =>
        last + ((c.os / 2 : Nat) : Int) + 1 + (n : Int)).filter fun i => (i - (p : Int)) % (c.os : Int) == 0 := by
  simp only [symbolInstants, bind_pure_comp, List.map_eq_map, List.map_map]
  rfl

/-- Which instants a block emits: those past LAST + OS/2, before N, and on the timing phase (R642). -/
theorem mem_symbolInstants {c : CfgRegs} {last : Int} {p : Nat} {x : Int} :
    x ∈ symbolInstants c last p ↔
      last + ((c.os / 2 : Nat) : Int) + 1 ≤ x ∧ x < (c.blockLen : Int) ∧ (c.os : Int) ∣ x - (p : Int) := by
  simp only [symbolInstants_eq, List.mem_filter, List.mem_map, List.mem_range, beq_iff_eq, Int.dvd_iff_emod_eq_zero]
  constructor
  · rintro ⟨⟨n, hn, rfl⟩, hmod⟩
    exact ⟨by omega, by omega, hmod⟩
  · rintro ⟨hlo, hhi, hmod⟩
    exact ⟨⟨(x - (last + ((c.os / 2 : Nat) : Int) + 1)).toNat, by omega, by omega⟩, hmod⟩

/-- The instants come in increasing order (R642). -/
theorem symbolInstants_pairwise (c : CfgRegs) (last : Int) (p : Nat) : (symbolInstants c last p).Pairwise (· < ·) := by
  rw [symbolInstants_eq]
  refine List.Pairwise.filter _ (List.pairwise_map.mpr ?_)
  exact List.pairwise_lt_range.imp fun h => by omega

/-- A block emits at most NSYM + 1 instants: one for each place k with p + k·OS from -OS to N (R642). -/
theorem symbolInstants_length_le {c : CfgRegs} {last : Int} {p : Nat} (hlast : -(c.os : Int) ≤ last) (hp : p < c.os) :
    (symbolInstants c last p).length ≤ c.symbols + 1 := by
  have hos : (0 : Int) < c.os := by omega
  have hplace : ∀ x ∈ symbolInstants c last p, ∃ k : Int, x = p + c.os * k ∧ -1 ≤ k ∧ k < c.symbols := by
    intro x hx
    obtain ⟨hlo, hhi, k, hk⟩ := mem_symbolInstants.mp hx
    refine ⟨k, by omega, ?_, ?_⟩
    · by_contra hlt
      have : (c.os : Int) * k ≤ c.os * (-2) := Int.mul_le_mul_of_nonneg_left (by omega) hos.le
      omega
    · have : (c.os : Int) * k < c.os * c.symbols := by
        have hN : (c.blockLen : Int) = c.os * c.symbols := by simp [CfgRegs.blockLen, mul_comm]
        omega
      exact lt_of_mul_lt_mul_left this hos.le
  have hnodup : (symbolInstants c last p).Nodup := (symbolInstants_pairwise c last p).imp ne_of_lt
  have hsub : (symbolInstants c last p).toFinset ⊆
      (Finset.Ico (-1 : Int) c.symbols).image fun k => (p : Int) + c.os * k := by
    intro x hx
    obtain ⟨k, rfl, hlo, hhi⟩ := hplace x (List.mem_toFinset.mp hx)
    exact Finset.mem_image_of_mem _ (Finset.mem_Ico.mpr ⟨hlo, hhi⟩)
  calc (symbolInstants c last p).length = (symbolInstants c last p).toFinset.card :=
        (List.toFinset_card_of_nodup hnodup).symm
    _ ≤ ((Finset.Ico (-1 : Int) c.symbols).image fun k => (p : Int) + c.os * k).card := Finset.card_le_card hsub
    _ ≤ (Finset.Ico (-1 : Int) c.symbols).card := Finset.card_image_le
    _ = c.symbols + 1 := by rw [Int.card_Ico]; omega

/-- LAST after a block lies in [-OS, -1]: the block's last OS samples hold an instant (R643). -/
theorem lastAfter_bounds {c : CfgRegs} (hc : c.Checked) {last : Int} (hlast : last ≤ -1) {p : Nat} (hp : p < c.os) :
    -(c.os : Int) ≤ lastAfter c last (symbolInstants c last p) ∧ lastAfter c last (symbolInstants c last p) ≤ -1 := by
  have hN : (c.blockLen : Int) = c.os * (c.symbols - 1) + c.os := by simp [CfgRegs.blockLen]; ring
  have hroom : (c.os : Int) ≤ c.os * (c.symbols - 1) := by
    have hsymbols := hc.symbols
    exact le_mul_of_one_le_right (by omega) (by omega)
  have hmem : (c.blockLen - c.os + p : Int) ∈ symbolInstants c last p :=
    mem_symbolInstants.mpr ⟨by omega, by omega, (c.symbols : Int) - 1, by omega⟩
  have hordered := symbolInstants_pairwise c last p
  have hbelow : ∀ x ∈ symbolInstants c last p, x < (c.blockLen : Int) := fun x hx => (mem_symbolInstants.mp hx).2.1
  unfold lastAfter
  split
  · rename_i i hi
    obtain ⟨pre, hpre⟩ := List.getLast?_eq_some_iff.mp hi
    rw [hpre] at hmem hordered hbelow
    have hi_lt := hbelow i (by simp)
    have hle : (c.blockLen - c.os + p : Int) ≤ i := by
      rcases List.mem_append.mp hmem with hx | hx
      · exact ((List.pairwise_append.mp hordered).2.2 _ hx i (List.mem_singleton_self i)).le
      · exact (List.mem_singleton.mp hx).le
    omega
  · rename_i hnone
    rw [List.getLast?_eq_none_iff.mp hnone] at hmem
    cases hmem

/-! ### The demodulator's ranges -/

/-- DEMOD_INIT is in its ranges (R150). -/
theorem demodInit_ok {c : CfgRegs} (hc : c.Checked) : (demodInit c.os).Ok c := by
  have hos := hc.os
  refine ⟨?_, ?_, ?_, List.length_replicate, List.length_replicate⟩ <;> simp only [demodInit] <;> omega

/-- The timing phase is a phase: it lies in [0, OS) (R641). -/
theorem timingPhase_lt {c : CfgRegs} (h : 0 < c.os) (a0 a1 : List Int) : timingPhase c a0 a1 < c.os :=
  List.mem_range.mp (firstMax_mem _ _ _ (by simp; omega))

/-- A block of N samples keeps the demodulator's ranges (R150, R643, R646). -/
theorem demodBlock_ok {c : CfgRegs} (hc : c.Checked) {d : Demod} (h : d.Ok c) {x : List Cplx} (hx : x.length = c.blockLen) :
    (demodBlock c d x).1.Ok c := by
  have hos : 0 < c.os := by have := hc.os; omega
  have hhistory : 2 * c.os ≤ c.blockLen := Nat.mul_le_mul_right _ hc.symbols
  obtain ⟨-, hlast, -, -, -⟩ := h
  have hbounds := fun {p : Nat} (hp : p < c.os) => lastAfter_bounds hc hlast hp
  have hphase := timingPhase_lt (c := c) hos
  exact ⟨(hbounds (hphase _ _)).1, (hbounds (hphase _ _)).2, hphase _ _,
    Branch.finish_length _ _ _ ((mixBlock_length _ _ _).trans hx) hhistory,
    Branch.finish_length _ _ _ ((mixBlock_length _ _ _).trans hx) hhistory⟩

/-- A block emits at most NSYM + 1 soft bits (R642, R645). -/
theorem demodBlock_soft_length_le {c : CfgRegs} (hc : c.Checked) {d : Demod} (h : d.Ok c) (x : List Cplx) :
    (demodBlock c d x).2.soft.length ≤ c.symbols + 1 := by
  have hos : 0 < c.os := by have := hc.os; omega
  refine (softBits_length _ _ _ _).trans_le ?_
  exact symbolInstants_length_le h.1 (timingPhase_lt hos _ _)

/-! ### The block step -/

/-- The end of a block: the framer afterwards (R660 to R662). -/
@[simp] theorem State.endBlock_framer (s : State) (c : CfgRegs) (o : BlockOut) : (s.endBlock c o).framer = s.framer :=
  (congrArg State.framer (s.endBlock_frame c o) :)

/-- The end of a block: PKT_FIFO afterwards (R660 to R662). -/
@[simp] theorem State.endBlock_pktFifo (s : State) (c : CfgRegs) (o : BlockOut) : (s.endBlock c o).pktFifo = s.pktFifo :=
  (congrArg State.pktFifo (s.endBlock_frame c o) :)

/-- The end of a block: the demodulator afterwards, its block counted (R660 to R662). -/
@[simp] theorem State.endBlock_demod (s : State) (c : CfgRegs) (o : BlockOut) :
    (s.endBlock c o).demod = { s.demod with bss := s.demod.bss + 1 } :=
  (congrArg State.demod (s.endBlock_frame c o) :)

/-- The state in which the framer meets a block's soft bits: the samples taken, the demodulator moved on (R600). -/
def State.afterDemod (s : State) (c : CfgRegs) : State :=
  { s with sampFifo := s.sampFifo.drop c.blockLen, demod := (demodBlock c s.demod (s.nextBlock c)).1 }

/-- The soft bits and statistics of the next block (R600). -/
def State.nextOut (s : State) (c : CfgRegs) : BlockOut := (demodBlock c s.demod (s.nextBlock c)).2

/-- The block step, in the names of its parts (R600). -/
theorem State.engineStep_parts (s : State) (c : CfgRegs) :
    s.engineStep c = ((s.afterDemod c).framerBits c (s.nextOut c).soft).endBlock c (s.nextOut c) :=
  s.engineStep_eq c

/-- The framer and the decoder leave the demodulator alone (R700, R822). -/
theorem FramerFrame.demod {s t : State} (h : FramerFrame s t) : t.demod = s.demod := (congrArg State.demod h.same :)

/-- The demodulator after a block step: as the block leaves it, and BSS one higher (R646, R660). -/
theorem State.engineStep_demod (s : State) (c : CfgRegs) :
    (s.engineStep c).demod =
      { (demodBlock c s.demod (s.nextBlock c)).1 with bss := s.demod.bss + 1 } := by
  rw [State.engineStep_parts, State.endBlock_demod, (State.framerBits_frame _ c _).demod]
  rfl

/-- What a block step leaves unchanged: everything but the sample FIFO, the packets, the engine's own state, the counters and the
statistics (R215, R600). -/
theorem State.engineStep_frame (s : State) (c : CfgRegs) :
    s.engineStep c = { s with
      sampFifo := s.sampFifo.drop c.blockLen, pktFifo := (s.engineStep c).pktFifo, irq := (s.engineStep c).irq
      cnt := (s.engineStep c).cnt, lastDecode := (s.engineStep c).lastDecode, lastUw := (s.engineStep c).lastUw
      stats := (s.engineStep c).stats, specMem := (s.engineStep c).specMem, snapNf := (s.engineStep c).snapNf
      demod := (s.engineStep c).demod, framer := (s.engineStep c).framer } := by
  have hbits := (State.framerBits_frame (s.afterDemod c) c (s.nextOut c).soft).same
  rw [State.engineStep_parts]
  generalize (s.afterDemod c).framerBits c (s.nextOut c).soft = u at hbits
  have hend := u.endBlock_frame c (s.nextOut c)
  generalize u.endBlock c (s.nextOut c) = t at hend
  rw [hend, hbits]
  rfl

/-- The packets that a block step appends: each passed the checksum (R822). -/
theorem State.engineStep_checked (s : State) (c : CfgRegs) :
    ∃ pkts, (s.engineStep c).pktFifo = s.pktFifo ++ pkts ∧ ∀ pkt ∈ pkts, crcOk pkt = true := by
  rw [State.engineStep_parts, State.endBlock_pktFifo]
  exact (State.framerBits_frame (s.afterDemod c) c (s.nextOut c).soft).packets

/-- The packets that a block step appends: P bytes each, and Pmax of them at most. The block's NSYM + 1 soft bits, with the N_CW - 1
that the framer may have collected, make no more (R601). -/
theorem State.engineStep_pushes {c : CfgRegs} (hc : c.Checked) {s : State} (hdemod : s.demod.Ok c) (hframer : s.framer.Ok c) :
    ∃ pkts : List (List Byte), (s.engineStep c).pktFifo = s.pktFifo ++ pkts ∧ (∀ pkt ∈ pkts, pkt.length = c.pktBytes) ∧
      pkts.length ≤ c.pMax := by
  obtain ⟨pkts, hpush, hsize, hcount⟩ := (s.afterDemod c).framerBits_pushes c (s.nextOut c).soft
  refine ⟨pkts, by rw [State.engineStep_parts, State.endBlock_pktFifo]; exact hpush, hsize, ?_⟩
  have hbits : (s.nextOut c).soft.length ≤ c.symbols + 1 := demodBlock_soft_length_le hc hdemod _
  have hprogress : (s.afterDemod c).framer.progress < c.nCw := hframer.progress_lt hc
  have hcodewords : c.nCw * pkts.length ≤ c.nCw + c.symbols := by omega
  have hpos : 0 < c.nCw := by omega
  calc pkts.length ≤ (c.nCw + c.symbols) / c.nCw := (Nat.le_div_iff_mul_le hpos).mpr (by rwa [mul_comm])
    _ = c.pMax := by rw [Nat.add_div_left _ hpos, CfgRegs.pMax, add_comm]

/-- A block step keeps the framer's ranges (R151). -/
theorem State.engineStep_framerOk {c : CfgRegs} (hc : c.Checked) {s : State} (h : s.framer.Ok c) :
    (s.engineStep c).framer.Ok c := by
  rw [State.engineStep_parts, State.endBlock_framer]
  exact State.framerBits_framerOk hc (demodBlock_soft_bounds c _ _) h

/-- An enabled block step keeps the demodulator's ranges (R150). -/
theorem State.engineStep_demodOk {c : CfgRegs} (hc : c.Checked) {s : State} (hsamples : c.blockLen ≤ s.sampCount)
    (h : s.demod.Ok c) : (s.engineStep c).demod.Ok c := by
  rw [State.engineStep_demod]
  exact demodBlock_ok hc h (s.nextBlock_length c hsamples)

/-- The end of a block keeps SPEC_MEM's length, and SNAP_NF an FFT size (R133, R662). -/
theorem State.SpectrumOk.endBlock {s : State} (h : s.SpectrumOk) {c : CfgRegs} (hc : c.Checked) {o : BlockOut}
    (ho : o.powers.length = 2 ^ c.log2Nf) : (s.endBlock c o).SpectrumOk := by
  rcases s.endBlock_cases c o with ⟨-, heq⟩ | ⟨-, heq⟩ <;> rw [heq]
  · obtain ⟨hlo, hhi⟩ := hc.log2Nf
    have hfits : 2 ^ c.log2Nf ≤ 1024 := Nat.pow_le_pow_right (n := 2) (by decide) hhi
    refine ⟨?_, ?_⟩
    · simp only [State.snapshot_specMem, List.length_append, List.length_map, List.length_drop, h.1, ho, CfgRegs.nf]
      omega
    · simp only [State.snapshot_snapNf, CfgRegs.nf]
      generalize c.log2Nf = l at hlo hhi
      interval_cases l <;> decide
  · exact h

/-- The framer and the decoder leave the spectrum alone (R700, R822). -/
theorem State.SpectrumOk.framerFrame {s t : State} (h : s.SpectrumOk) (hf : FramerFrame s t) : t.SpectrumOk := by
  rw [hf.same]
  exact h

/-- A block step keeps the spectrum's ranges (R133). -/
theorem State.engineStep_spectrumOk {c : CfgRegs} (hc : c.Checked) {s : State} (h : s.SpectrumOk) :
    (s.engineStep c).SpectrumOk := by
  have hdemod : (s.afterDemod c).SpectrumOk := h
  exact (hdemod.framerFrame (State.framerBits_frame _ c _)).endBlock hc (demodBlock_powers_length c _ _)

end Sys2Proof.Machine
end

section
/-! SUPPORT. The machine's invariant (State.Inv), part by part: each part is a lemma about the effects a turn can have on the core. -/

namespace Sys2Proof.Machine

/-! ### H_MEM and the reserved bits -/

/-- No effect changes the build-time parameters (log 8). -/
theorem CoreEffect.par {s t : State} (h : CoreEffect s t) : t.par = s.par := by
  cases h with
  | packet => exact s.advancePacket_par
  | block c => rw [s.engineStep_frame c]
  | _ => rfl

/-- H_MEM's form does not depend on the rest of the state. -/
theorem State.MemoryOk.of_sameCore {s t : State} (h : SameCore s t) (hs : s.MemoryOk) : t.MemoryOk := by
  cases h
  exact hs

/-- Every effect keeps H_MEM canonical and within P_H_MAX: an accepted write is the only one that stores (R130, R411). -/
theorem CoreEffect.memoryOk {s t : State} (h : CoreEffect s t) (hs : s.MemoryOk) : t.MemoryOk := by
  cases h with
  | storeH w _ haddr =>
    refine ⟨Memory.store_wf _ _ _ hs.1, fun e he => ?_⟩
    rcases Memory.mem_store _ _ _ _ he with rfl | he
    · exact haddr
    · exact hs.2 e he
  | powerOn => exact ⟨rfl, nofun⟩
  | packet => rcases s.advancePacket_cases with ⟨-, h⟩ | ⟨-, h⟩ <;> rw [h] <;> exact hs
  | block c =>
    rw [s.engineStep_frame c]
    exact hs
  | _ => exact hs

/-- The configuration registers at reset have their reserved bits 0 (R102). -/
theorem CfgRegs.reset_masked : CfgRegs.reset.Masked := by
  unfold CfgRegs.Masked
  decide

/-- The reserved bits do not depend on the rest of the state. -/
theorem State.ConfigMasked.of_sameCore {s t : State} (h : SameCore s t) (hs : s.ConfigMasked) : t.ConfigMasked := by
  cases h
  exact hs

/-- Outside RUN an accepted H_DATA write leaves no active configuration (R411). -/
theorem Mode.afterHWrite_active {m : Mode} (h : ∀ c, m ≠ .run c) : m.afterHWrite.active = none := by
  cases m with
  | run c => exact absurd rfl (h c)
  | _ => rfl

/-- Every effect keeps the reserved bits 0: the active configuration is only ever the one before or the shadow (R103, R120). -/
theorem CoreEffect.configMasked {s t : State} (h : CoreEffect s t) (hs : s.ConfigMasked) : t.ConfigMasked := by
  obtain ⟨hshadow, hactive⟩ := hs
  cases h with
  | softReset | powerOn => exact ⟨CfgRegs.reset_masked, nofun⟩
  | configurePass =>
    refine ⟨hshadow, fun c hc => ?_⟩
    cases hc
    exact hshadow
  | configureFail => exact ⟨hshadow, nofun⟩
  | start c hm | stop c hm => exact ⟨hshadow, fun c' hc => hactive c' (by rw [hm]; exact hc)⟩
  | shadow c hc => exact ⟨hc hshadow, hactive⟩
  | storeH w hrun =>
    refine ⟨hshadow, fun c hc => ?_⟩
    cases (Mode.afterHWrite_active hrun).symm.trans hc
  | packet => rcases s.advancePacket_cases with ⟨-, h⟩ | ⟨-, h⟩ <;> rw [h] <;> exact ⟨hshadow, hactive⟩
  | block c =>
    rw [s.engineStep_frame c]
    exact ⟨hshadow, hactive⟩
  | _ => exact ⟨hshadow, hactive⟩

/-- Settles O54: no effect on the core breaks H_MEM's form or sets a reserved bit, and nothing else of the state bears on them. -/
theorem stepKeepsMemoryAndReservedBits : Obligations.StepKeepsMemoryAndReservedBits := fun _ _ h =>
  ⟨step_keeps (fun _ _ => State.MemoryOk.of_sameCore) (fun _ _ => CoreEffect.memoryOk) h,
    step_keeps (fun _ _ => State.ConfigMasked.of_sameCore) (fun _ _ => CoreEffect.configMasked) h⟩

/-! ### The active configuration -/

/-- Every effect keeps the active configuration valid: while there is one, neither it nor H_MEM changes, and CONFIGURE validates
the one it makes active (R215). -/
theorem CoreEffect.configValid {s t : State} (h : CoreEffect s t) (hs : s.ConfigValid) : t.ConfigValid := by
  cases h with
  | softReset | powerOn | configureFail => exact nofun
  | configurePass hv =>
    intro c hc
    cases hc
    exact hv
  | start c hm | stop c hm => exact fun c' hc => hs c' (by rw [hm]; exact hc)
  | storeH w hrun =>
    intro c hc
    cases (Mode.afterHWrite_active hrun).symm.trans hc
  | packet => rcases s.advancePacket_cases with ⟨-, h⟩ | ⟨-, h⟩ <;> rw [h] <;> exact hs
  | block c =>
    rw [s.engineStep_frame c]
    exact hs
  | _ => exact hs

/-- Where the invariant holds, the active configuration has passed the register checks (R906). -/
theorem State.Inv.checked_active {s : State} (h : s.Inv) {c : CfgRegs} (hc : s.mode.active = some c) : c.Checked :=
  State.checked_of_validate (h.valid c hc)

/-- In RUN the active configuration is RUN's. -/
theorem Mode.active_of_run {m : Mode} {c : CfgRegs} (h : m = .run c) : m.active = some c := h ▸ rfl

/-! ### The FIFOs -/

/-- Every effect keeps the FIFOs within their depths: samples are pushed into what room there is, and a block step has room for the
Pmax packets that it can push (R131, R420, R601). -/
theorem CoreEffect.fifosBounded {s t : State} (h : CoreEffect s t) (hi : s.Inv) : t.FifosBounded := by
  obtain ⟨hsamp, hpkt⟩ := hi.fifos
  cases h with
  | softReset | powerOn | configurePass | configureFail => exact ⟨Nat.zero_le _, Nat.zero_le _⟩
  | stop => exact ⟨Nat.zero_le _, hpkt⟩
  | flushPackets => exact ⟨hsamp, Nat.zero_le _⟩
  | samples xs hroom =>
    refine ⟨?_, hpkt⟩
    simp only [State.sampCount, State.sampFree, State.pushSamples, List.length_append] at hsamp hroom ⊢
    omega
  | packet =>
    rcases s.advancePacket_cases with ⟨-, h⟩ | ⟨-, h⟩ <;> rw [h]
    · exact ⟨hsamp, (List.tail_sublist _).length_le.trans hpkt⟩
    · exact ⟨hsamp, hpkt⟩
  | block c hrun _ hroom =>
    have hactive := Mode.active_of_run hrun
    obtain ⟨hdemod, hframer, -⟩ := hi.engine c hactive
    obtain ⟨pkts, hpush, -, hcount⟩ := State.engineStep_pushes (hi.checked_active hactive) hdemod hframer
    refine ⟨?_, ?_⟩
    · rw [s.engineStep_frame c]
      simp only [State.sampCount, List.length_drop] at hsamp ⊢
      omega
    · rw [CoreEffect.par (.block c hrun ‹_› hroom)]
      simp only [State.pktCount, State.pktFree, hpush, List.length_append] at hpkt hroom ⊢
      omega
  | _ => exact ⟨hsamp, hpkt⟩

/-- Every effect leaves only packets that passed the checksum (R822). -/
theorem CoreEffect.packetsChecked {s t : State} (h : CoreEffect s t) (hs : s.PacketsChecked) : t.PacketsChecked := by
  cases h with
  | softReset | powerOn | configurePass | configureFail | flushPackets => exact nofun
  | packet =>
    rcases s.advancePacket_cases with ⟨-, h⟩ | ⟨-, h⟩ <;> rw [h]
    · exact fun pkt hm => hs pkt (List.mem_of_mem_tail hm)
    · exact hs
  | block c =>
    obtain ⟨pkts, hpush, hnew⟩ := s.engineStep_checked c
    intro pkt hm
    rw [hpush] at hm
    rcases List.mem_append.mp hm with hm | hm
    · exact hs pkt hm
    · exact hnew pkt hm
  | _ => exact hs

/-- An empty PKT_FIFO with RD_WORD 0 is in order, whatever PKW is (R132). -/
theorem State.PacketsSized.of_empty {s : State} (hp : s.pktFifo = []) (hr : s.rdWord = 0) : s.PacketsSized :=
  ⟨by simp [hp], by simp [hp, hr]⟩

/-- The bytes of a packet fill PKW words, and there is at least one (R132, R820). -/
theorem CfgRegs.Checked.pktWords {c : CfgRegs} (h : c.Checked) : (c.pktBytes + 3) / 4 = c.pktWords ∧ 0 < c.pktWords := by
  obtain ⟨hmin, hbytes⟩ := h.kInfo
  simp only [CfgRegs.pktBytes, CfgRegs.pktWords]
  omega

/-- Every effect keeps the packets PKW words long and RD_WORD in the oldest one (R132, R430). -/
theorem CoreEffect.packetsSized {s t : State} (h : CoreEffect s t) (hi : s.Inv) : t.PacketsSized := by
  obtain ⟨hwords, hread⟩ := hi.sized
  cases h with
  | softReset | powerOn | configurePass | configureFail | flushPackets => exact .of_empty rfl rfl
  | packet hne =>
    rw [if_neg hne] at hread
    rcases s.advancePacket_cases with ⟨hlast, h⟩ | ⟨hmore, h⟩ <;> rw [h]
    · refine ⟨fun pkt hm => hwords pkt (List.mem_of_mem_tail hm), ?_⟩
      split
      · rfl
      · exact hlast ▸ Nat.succ_pos _
    · refine ⟨hwords, ?_⟩
      simp only [if_neg hne]
      omega
  | block c hrun =>
    have hactive := Mode.active_of_run hrun
    have hc := hi.checked_active hactive
    obtain ⟨hdemod, hframer, hpkw⟩ := hi.engine c hactive
    obtain ⟨hsize, hpos⟩ := hc.pktWords
    obtain ⟨pkts, hpush, hbytes, -⟩ := State.engineStep_pushes hc hdemod hframer
    have hpkw' : (s.engineStep c).pkw = s.pkw := by rw [s.engineStep_frame c]
    have hrd : (s.engineStep c).rdWord = s.rdWord := by rw [s.engineStep_frame c]
    unfold State.PacketsSized
    rw [hpush, hpkw', hrd]
    refine ⟨fun pkt hm => ?_, ?_⟩
    · rcases List.mem_append.mp hm with hm | hm
      · exact hwords pkt hm
      · rw [hbytes pkt hm, hsize, hpkw]
    · by_cases hempty : s.pktFifo = []
      · rw [if_pos hempty] at hread
        split <;> omega
      · rw [if_neg hempty] at hread
        rwa [if_neg (by simp [hempty])]
  | _ => exact ⟨hwords, hread⟩

/-! ### The spectrum and the engine -/

/-- Every effect keeps SPEC_MEM's length and SNAP_NF an FFT size (R133). -/
theorem CoreEffect.spectrumOk {s t : State} (h : CoreEffect s t) (hi : s.Inv) : t.SpectrumOk := by
  have hs := hi.spectrum
  cases h with
  | softReset | powerOn => exact ⟨List.length_replicate, List.mem_cons_self⟩
  | configurePass => exact ⟨hs.1, List.mem_cons_self⟩
  | packet => rcases s.advancePacket_cases with ⟨-, h⟩ | ⟨-, h⟩ <;> rw [h] <;> exact hs
  | block c hrun => exact State.engineStep_spectrumOk (hi.checked_active (Mode.active_of_run hrun)) hs
  | _ => exact hs

/-- Every effect keeps the demodulator, the framer and PKW in the active configuration's ranges: they start in them, and a block
step keeps them (R1003, R150, R151, R643). -/
theorem CoreEffect.engineOk {s t : State} (h : CoreEffect s t) (hi : s.Inv) : t.EngineOk := by
  have hs := hi.engine
  cases h with
  | softReset | powerOn | configureFail => exact nofun
  | configurePass hv =>
    intro c hc
    cases hc
    have hchecked := State.checked_of_validate hv
    exact ⟨demodInit_ok hchecked, framerInit_ok hchecked, rfl⟩
  | start c hm | stop c hm =>
    have hactive : s.mode.active = some c := by rw [hm]; rfl
    have hchecked := hi.checked_active hactive
    intro c' hc
    cases hc
    exact ⟨demodInit_ok hchecked, framerInit_ok hchecked, (hs c hactive).2.2⟩
  | resync =>
    intro c hc
    obtain ⟨hdemod, -, hpkw⟩ := hs c hc
    exact ⟨hdemod, framerInit_ok (hi.checked_active hc), hpkw⟩
  | flushPackets | samples | shadow | none => exact hs
  | storeH w hrun =>
    intro c hc
    cases (Mode.afterHWrite_active hrun).symm.trans hc
  | packet => rcases s.advancePacket_cases with ⟨-, h⟩ | ⟨-, h⟩ <;> rw [h] <;> exact hs
  | block c hrun hsamples =>
    have hactive := Mode.active_of_run hrun
    have hmode : (s.engineStep c).mode = s.mode := by rw [s.engineStep_frame c]
    have hpkw' : (s.engineStep c).pkw = s.pkw := by rw [s.engineStep_frame c]
    have hchecked := hi.checked_active hactive
    obtain ⟨hdemod, hframer, hpkw⟩ := hs c hactive
    intro c' hc
    rw [hmode, hactive] at hc
    cases hc
    exact ⟨State.engineStep_demodOk hchecked hsamples hdemod, State.engineStep_framerOk hchecked hframer, hpkw'.trans hpkw⟩

/-! ### The invariant -/

/-- The invariant does not depend on what lies outside the core. -/
theorem State.Inv.of_sameCore {s t : State} (h : SameCore s t) (hi : s.Inv) : t.Inv := by
  cases h
  exact ⟨hi.legal, hi.masked, hi.memory, hi.valid, hi.fifos, hi.checked, hi.sized, hi.spectrum, hi.engine⟩

/-- Every effect on the core keeps the invariant. -/
theorem CoreEffect.inv {s t : State} (h : CoreEffect s t) (hi : s.Inv) : t.Inv where
  legal := h.par ▸ hi.legal
  masked := h.configMasked hi.masked
  memory := h.memoryOk hi.memory
  valid := h.configValid hi.valid
  fifos := h.fifosBounded hi
  checked := h.packetsChecked hi.checked
  sized := h.packetsSized hi
  spectrum := h.spectrumOk hi
  engine := h.engineOk hi

/-- Settles O57: a step is an effect on the core and a change outside it, and both keep the invariant. -/
theorem stepKeepsInv : Obligations.StepKeepsInv := fun _ _ hi h =>
  step_keeps (fun _ _ => State.Inv.of_sameCore) (fun _ _ => CoreEffect.inv) h hi

end Sys2Proof.Machine
end

section
/-! SUPPORT. What the decoder and the engine do not see: the shadow configuration (R120); the block step composed (R600); and which
accesses change STATE (R110). -/

namespace Sys2Proof.Machine

/-! ### The engine does not see the shadow -/

section
variable (s : State) (sh c : CfgRegs)

/-- The gate does not see the shadow (R822). -/
theorem State.decodeGate_writeShadow (d : DecodeResult) :
    (s.writeShadow sh).decodeGate c d = (s.decodeGate c d).writeShadow sh := by
  simp only [State.decodeGate]
  split_ifs <;> rfl

/-- The end of a codeword does not see the shadow (R712). -/
theorem State.codewordDone_writeShadow : (s.writeShadow sh).codewordDone c = (s.codewordDone c).writeShadow sh := by
  have h := State.decodeGate_writeShadow { s with cnt := { s.cnt with frames := s.cnt.frames + 1 } } sh c
    (ldpcDecode (graphRows (s.hEntries c.hCount)) c.maxIt c.scale c.offset (s.framer.cwBuf.take c.nCw))
  exact congrArg (fun t : State =>
    { t with framer := { t.framer with phase := if 0 < c.gapBits then .gap else .uw, cnt := 0, cwBuf := [] } }) h

/-- A bit in Searching does not see the shadow (R710). -/
theorem State.searchBit_writeShadow : (s.writeShadow sh).searchBit c = (s.searchBit c).writeShadow sh := by
  rcases s.searchBit_cases c with ⟨hfill, hd, heq⟩ | ⟨hno, heq⟩ <;> rw [heq]
  · exact (if_pos hfill).trans (if_pos hd)
  · by_cases hfill : s.framer.fill = c.luw
    · exact (if_pos hfill).trans (if_neg fun hd => hno ⟨hfill, hd⟩)
    · exact if_neg hfill

/-- A bit of a codeword does not see the shadow (R711). -/
theorem State.codewordBit_writeShadow (v : Int) : (s.writeShadow sh).codewordBit c v = (s.codewordBit c v).writeShadow sh := by
  have hdone := State.codewordDone_writeShadow { s with framer := s.framer.collect v } sh c
  by_cases hn : s.framer.cnt + 1 = c.nCw
  · rw [show s.codewordBit c v = _ from if_pos hn, ← hdone]
    exact if_pos hn
  · rw [show s.codewordBit c v = _ from if_neg hn]
    exact if_neg hn

/-- A bit of the gap does not see the shadow (R713). -/
theorem State.gapBit_writeShadow : (s.writeShadow sh).gapBit c = (s.gapBit c).writeShadow sh := by
  rcases s.gapBit_cases c with ⟨hn, heq⟩ | ⟨hn, heq⟩ <;> rw [heq]
  · exact if_pos hn
  · exact if_neg hn

/-- A bit of the marker does not see the shadow (R714 to R717). -/
theorem State.markerBit_writeShadow : (s.writeShadow sh).markerBit c = (s.markerBit c).writeShadow sh := by
  rcases s.markerBit_cases c with ⟨hn, heq⟩ | ⟨hn, hd, heq⟩ | ⟨hn, hd, hm, heq⟩ | ⟨hn, hd, hm, heq⟩ <;> rw [heq]
  · exact if_neg hn
  · exact (if_pos hn).trans (if_pos hd)
  · exact (if_pos hn).trans ((if_neg hd.not_ge).trans (if_neg hm.not_ge))
  · exact (if_pos hn).trans ((if_neg hd.not_ge).trans (if_pos hm))

/-- A soft bit does not see the shadow (R701). -/
theorem State.framerBit_writeShadow (v : Int) : (s.writeShadow sh).framerBit c v = (s.framerBit c v).writeShadow sh := by
  unfold State.framerBit
  have hshift : { s.writeShadow sh with framer := (s.writeShadow sh).framer.shiftIn c (hardBit v) } =
      State.writeShadow { s with framer := s.framer.shiftIn c (hardBit v) } sh := rfl
  rw [hshift]
  generalize { s with framer := s.framer.shiftIn c (hardBit v) } = u
  simp only [State.writeShadow_framer]
  split
  · exact u.searchBit_writeShadow sh c
  · simp only [State.syncBit, State.writeShadow_framer]
    split
    · exact u.codewordBit_writeShadow sh c v
    · exact u.gapBit_writeShadow sh c
    · exact u.markerBit_writeShadow sh c

/-- A run of soft bits does not see the shadow (R652). -/
theorem State.framerBits_writeShadow (soft : List Int) :
    (s.writeShadow sh).framerBits c soft = (s.framerBits c soft).writeShadow sh := by
  induction soft generalizing s with
  | nil => rfl
  | cons v soft ih =>
    have hbit := s.framerBit_writeShadow sh c v
    exact (congrArg (fun t : State => t.framerBits c soft) hbit).trans (ih (s.framerBit c v))

/-- The end of a block does not see the shadow (R660 to R662). -/
theorem State.endBlock_writeShadow (o : BlockOut) : (s.writeShadow sh).endBlock c o = (s.endBlock c o).writeShadow sh := by
  rcases s.endBlock_cases c o with ⟨h, heq⟩ | ⟨h, heq⟩ <;> rw [heq]
  · exact if_pos h
  · exact if_neg (Bool.not_eq_true _ ▸ h)

/-- A block step does not see the shadow (R120). -/
theorem State.engineStep_writeShadow : (s.writeShadow sh).engineStep c = (s.engineStep c).writeShadow sh := by
  have hbits := (s.afterDemod c).framerBits_writeShadow sh c (s.nextOut c).soft
  exact (congrArg (fun t : State => t.endBlock c (s.nextOut c)) hbits).trans (State.endBlock_writeShadow _ sh c _)

end

/-- A block step keeps CFG_DONE and CNT_SAMP_DROP, which are the host side's (R140, R512). -/
theorem State.engineStep_hostFlags (s : State) (c : CfgRegs) :
    (s.engineStep c).irq.cfgDone = s.irq.cfgDone ∧ (s.engineStep c).cnt.sampDrop = s.cnt.sampDrop := by
  have hbits := State.framerBits_frame (s.afterDemod c) c (s.nextOut c).soft
  rw [State.engineStep_parts, State.endBlock_frame]
  exact ⟨hbits.cfgDone, hbits.sampDrop⟩

/-- Settles O34: the frame of the block step, its independence of the shadow, and its composition, which is the definitions'. -/
theorem engineStepFrame : Obligations.EngineStepFrame := by
  intro s c
  obtain ⟨pkts, hpush, -⟩ := s.engineStep_checked c
  obtain ⟨hcfgDone, hsampDrop⟩ := s.engineStep_hostFlags c
  have hframe := s.engineStep_frame c
  have hsamp : (s.engineStep c).sampFifo = s.sampFifo.drop c.blockLen := (congrArg State.sampFifo hframe :)
  exact ⟨⟨hsamp, ⟨pkts, hpush⟩, by rw [← hsamp] at hframe; exact hframe, hcfgDone, hsampDrop,
    fun sh => s.engineStep_writeShadow sh c⟩, rfl, s.engineStep_demod c⟩

/-! ### Which accesses change STATE -/

/-- The commands that can change STATE (R511, R512, R520, R521). -/
def changesState : Command → Bool
  | .softReset | .configure | .start | .stop => true
  | _ => false

/-- The other commands leave STATE alone, where it allows them and where it does not (R500). -/
theorem performCommand_mode {k : Command} (h : changesState k = false) (s : State) : (performCommand k s).mode = s.mode := by
  rcases performCommand_cases s k with ⟨-, heq⟩ | ⟨-, heq⟩ <;> rw [heq]
  · cases k with
    | nop | resync | clearCounters | flushPackets => rfl
    | softReset | configure | start | stop => cases h
  · rfl

/-- The CMD words of the commands that can change STATE are 1 to 4 (R301). -/
theorem decodeCommand_changesState {w : Word} {k : Command} (h : decodeCommand w = some k) (hk : changesState k = true) :
    1 ≤ w.toNat ∧ w.toNat ≤ 4 := by
  unfold decodeCommand at h
  split at h
  · cases h
  · rename_i hhigh
    have hlow : w.toNat = (w.extractLsb' 0 8).toNat := by
      have hzero := congrArg BitVec.toNat (not_not.mp hhigh)
      simp only [BitVec.extractLsb'_toNat, Nat.shiftRight_eq_div_pow, BitVec.toNat_ofNat] at hzero ⊢
      omega
    rw [hlow]
    split at h <;> rename_i hop <;> cases h
    case h_1 | h_6 | h_7 | h_8 => cases hk
    all_goals omega

/-- A CMD word that changes STATE is one of 1 to 4 (R110, R301). -/
theorem executeCommand_mode {w : Word} {s : State} (h : (executeCommand w s).mode ≠ s.mode) : 1 ≤ w.toNat ∧ w.toNat ≤ 4 := by
  unfold executeCommand at h
  split at h
  · rename_i k hk
    cases hc : changesState k
    · exact absurd (performCommand_mode hc s) h
    · exact decodeCommand_changesState hk hc
  · exact absurd rfl h

/-- A sample word leaves STATE alone (R420). -/
theorem State.writeSampleData_mode (s : State) (w : Word) : (s.writeSampleData w).mode = s.mode := by
  rcases s.writeSampleData_cases w with ⟨-, h⟩ | ⟨c, -, h⟩ <;> rw [h]
  · rfl
  · rcases s.acceptSampleWord_cases c w with ⟨-, h⟩ | ⟨-, h⟩ <;> rw [h] <;> rfl

/-- A read of H_DATA leaves STATE alone (R412). -/
theorem execRdHData_mode (s : State) : ∃ t, execRdHData s = .next t ∧ t.mode = s.mode := by
  unfold execRdHData
  split <;> exact ⟨_, rfl, rfl⟩

/-- A read of PKT_DATA leaves STATE alone (R430). -/
theorem execRdPktData_mode (s : State) : ∃ t, execRdPktData s = .next t ∧ t.mode = s.mode := by
  unfold execRdPktData
  split
  · exact ⟨_, rfl, rfl⟩
  · exact ⟨_, rfl, s.advancePacket_mode⟩

/-- The instructions that can change STATE: the four commands, issued as such or as a CMD write, and an H_DATA write (R110). -/
def ChangesState (i : Instr) : Prop :=
  i = .softReset ∨ i = .configure ∨ i = .start ∨ i = .stop ∨ (∃ w, i = .wrCmd w ∧ 1 ≤ w.toNat ∧ w.toNat ≤ 4) ∨
    ∃ w, i = .wrHData w

/-- Every other instruction leaves STATE alone (R110). -/
theorem exec_mode (i : Instr) (s : State) : ChangesState i ∨ ∃ t, exec i s = .next t ∧ t.mode = s.mode := by
  cases i with
  | softReset => exact .inl (.inl rfl)
  | configure => exact .inl (.inr (.inl rfl))
  | start => exact .inl (.inr (.inr (.inl rfl)))
  | stop => exact .inl (.inr (.inr (.inr (.inl rfl))))
  | wrHData w => exact .inl (.inr (.inr (.inr (.inr (.inr ⟨w, rfl⟩)))))
  | wrCmd w =>
    by_cases h : (executeCommand w s).mode = s.mode
    · exact .inr ⟨_, rfl, h⟩
    · exact .inl (.inr (.inr (.inr (.inr (.inl ⟨w, rfl, executeCommand_mode h⟩)))))
  | nop | resync | clearCounters | flushPackets => exact .inr ⟨_, rfl, performCommand_mode rfl s⟩
  | wrSampleData w => exact .inr ⟨_, rfl, s.writeSampleData_mode w⟩
  | rdHData => exact .inr (execRdHData_mode s)
  | rdPktData => exact .inr (execRdPktData_mode s)
  | reserved05C | reserved06C | reserved07C | reserved0B4 | reserved0B8 | reserved0BC | reserved0EC | reserved0F0
  | reserved100 | reserved200 | reserved400 | reserved800 | misaligned1 | misaligned2 | misaligned3 =>
    exact .inr ⟨_, rfl, s.busError_mode _⟩
  -- reads without side effect, ignored writes, and writes of registers other than CMD
  | _ => exact .inr ⟨_, rfl, rfl⟩

/-- A turn of the engine leaves STATE alone (R110). -/
theorem State.engineTurn_mode (s : State) : s.engineTurn.mode = s.mode := by
  rcases s.engineTurn_cases with ⟨c, -, -, h⟩ | h <;> rw [h]
  rw [s.engineStep_frame c]

/-- Settles O30: only the four commands and an H_DATA write reach STATE; every other access, and the engine, leave it. -/
theorem onlyCommandsAndHDataChangeState : Obligations.OnlyCommandsAndHDataChangeState := by
  refine ⟨fun i s t h hne => ?_, State.engineTurn_mode⟩
  rcases exec_mode i s with hi | ⟨u, hu, hmode⟩
  · exact hi
  · cases hu.symm.trans h
    exact absurd hmode hne

/-! ### Words of the opcode table, and the reads of LAST_DECODE and LAST_UW -/

/-- Settles O3: each word is decoded by evaluation. -/
theorem tableWordsDecode : Obligations.TableWordsDecode := by
  unfold Obligations.TableWordsDecode
  decide

/-- The bits of LAST_DECODE's word (R141). -/
theorem LastDecode.word_getLsbD (d : LastDecode) (k : Nat) :
    d.word.getLsbD k =
      if k < 8 then d.iters.getLsbD k else if k = 8 then d.parityOk else if k = 9 then d.crcOk
      else if k = 10 then d.valid else false := by
  unfold LastDecode.word
  rw [BitVec.getLsbD_append (n := 24) (m := 8), BitVec.getLsbD_append (n := 23) (m := 1),
    BitVec.getLsbD_append (n := 22) (m := 1), BitVec.getLsbD_append (n := 21) (m := 1)]
  simp only [BitVec.getLsbD_ofBool, BitVec.getLsbD_zero]
  grind

/-- The bits of LAST_UW's word (R141). -/
theorem LastUw.word_getLsbD (u : LastUw) (k : Nat) :
    u.word.getLsbD k = if k < 7 then u.dist.getLsbD k else if k = 7 then u.valid else false := by
  unfold LastUw.word
  rw [BitVec.getLsbD_append (n := 25) (m := 7), BitVec.getLsbD_append (n := 24) (m := 1)]
  simp only [BitVec.getLsbD_ofBool, BitVec.getLsbD_zero]
  grind

/-- The fields of LAST_DECODE's word (R141). -/
theorem LastDecode.word_fields (d : LastDecode) :
    d.word.extractLsb' 0 8 = d.iters ∧ d.word.getLsbD 8 = d.parityOk ∧ d.word.getLsbD 9 = d.crcOk ∧
      d.word.getLsbD 10 = d.valid ∧ d.word.extractLsb' 11 21 = 0#21 := by
  refine ⟨BitVec.extractLsb'_append_eq_right, d.word_getLsbD 8, d.word_getLsbD 9, d.word_getLsbD 10, ?_⟩
  refine BitVec.eq_of_getLsbD_eq fun i hi => ?_
  rw [BitVec.getLsbD_extractLsb', LastDecode.word_getLsbD, BitVec.getLsbD_zero]
  grind

/-- The fields of LAST_UW's word (R141). -/
theorem LastUw.word_fields (u : LastUw) :
    u.word.extractLsb' 0 7 = u.dist ∧ u.word.getLsbD 7 = u.valid ∧ u.word.extractLsb' 8 24 = 0#24 := by
  refine ⟨BitVec.extractLsb'_append_eq_right, u.word_getLsbD 7, ?_⟩
  refine BitVec.eq_of_getLsbD_eq fun i hi => ?_
  rw [BitVec.getLsbD_extractLsb', LastUw.word_getLsbD, BitVec.getLsbD_zero]
  grind

/-- Settles O14: each read answers with the register's word, whose fields are R141's. -/
theorem lastDecodeAndLastUwReads : Obligations.LastDecodeAndLastUwReads :=
  ⟨fun s => ⟨s.lastDecode.word, rfl, s.lastDecode.word_fields⟩, fun s => ⟨s.lastUw.word, rfl, s.lastUw.word_fields⟩⟩

end Sys2Proof.Machine
end

section
/-! SUPPORT. Re-encoding what the decoder reads (R300, R301, R400); what the accesses without side effect have in common (R205); and
the step, turn by turn (R210, R215). -/

namespace Sys2Proof.Machine

/-! ### The active configuration, step by step -/

/-- Whether the active configuration is valid depends on nothing outside the core (R906). -/
theorem State.ConfigValid.of_sameCore {s t : State} (h : SameCore s t) (hs : s.ConfigValid) : t.ConfigValid := by
  cases h
  exact hs

/-- Settles O56: no effect on the core leaves an active configuration that fails a check, and nothing else bears on the checks. -/
theorem stepKeepsActiveConfigValid : Obligations.StepKeepsActiveConfigValid := fun _ _ hs h =>
  step_keeps (fun _ _ => State.ConfigValid.of_sameCore) (fun _ _ => CoreEffect.configValid) h hs

/-! ### The step, turn by turn -/

/-- With no turn left the engine moves (log 2). -/
theorem step_of_script_nil {s : State} (h : s.script = []) : step s = .next s.engineTurn := by
  rw [step, h]

/-- An engine turn (R601). -/
theorem step_of_script_engine {s : State} {rest : List Turn} (h : s.script = .engine :: rest) :
    step s = .next (State.engineTurn { s with script := rest }) := by
  rw [step, h]

/-- A power-on reset (R1000). -/
theorem step_of_script_powerOn {s : State} {rest : List Turn} (h : s.script = .powerOn :: rest) :
    step s = .next (State.powerOnReset { s with script := rest }) := by
  rw [step, h]

/-- A host operation (R206). -/
theorem step_of_script_host {s : State} {op : HostOp} {rest : List Turn} (h : s.script = .host op :: rest) :
    step s = runHost op { s with script := rest } := by
  rw [step, h]

/-- An operation that decodes runs its instruction (R206). -/
theorem runHost_of_decode {op : HostOp} {i : Instr} (h : decode op = .ok i) (s : State) : runHost op s = exec i s := by
  rw [runHost, h]

/-- Settles O4: the step looks at the head of the script, and a host operation at what it decodes to. -/
theorem stepRunsDecodedInstruction : Obligations.StepRunsDecodedInstruction :=
  ⟨fun _ _ _ _ hscript hdecode => (step_of_script_host hscript).trans (runHost_of_decode hdecode _),
    fun _ _ => ⟨step_of_script_engine, step_of_script_powerOn, step_of_script_nil⟩⟩

end Sys2Proof.Machine

namespace Sys2Proof

open Laws.RoundTrip (toNat_key toNat_prefix)

/-! ### CMD words -/

/-- A legal CMD word is the word of the command it decodes to (R301). -/
theorem eq_commandWord_of_decodeCommand {w : Word} {k : Command} (h : decodeCommand w = some k) : w = Machine.commandWord k := by
  unfold decodeCommand at h
  split at h
  · cases h
  · rename_i hhigh
    have hlow : w.toNat = (w.extractLsb' 0 8).toNat := by
      have hzero := congrArg BitVec.toNat (not_not.mp hhigh)
      simp only [BitVec.extractLsb'_toNat, Nat.shiftRight_eq_div_pow, BitVec.toNat_ofNat] at hzero ⊢
      omega
    split at h <;> rename_i hop <;> cases h
    all_goals exact BitVec.eq_of_toNat_eq (hlow.trans hop)

/-- A CMD word that decodes to no command has RSV ≠ 0 or OP > 0x07 (R301). -/
theorem cmdIllegal_wf_of_decodeCommand {w : Word} (h : decodeCommand w = none) : (Instr.cmdIllegal w).wf = true := by
  refine decide_eq_true (or_iff_not_imp_left.mpr fun hhigh => ?_)
  rw [decodeCommand, if_neg hhigh] at h
  split at h
  case h_9 =>
    simp only [imp_false] at *
    rw [BitVec.lt_def, BitVec.toNat_ofNat]
    omega
  all_goals cases h

/-- What a CMD word decodes to is well formed and re-encodes to the word (R301, R302). -/
theorem encode_decodeCmdWord (w : Word) : (decodeCmdWord w).wf = true ∧ encode (decodeCmdWord w) = .cmd w := by
  cases h : decodeCommand w with
  | none =>
    rw [decodeCmdWord, h]
    exact ⟨cmdIllegal_wf_of_decodeCommand h, rfl⟩
  | some k =>
    rw [eq_commandWord_of_decodeCommand h]
    cases k <;> exact ⟨rfl, rfl⟩

/-! ### Access keys -/

/-- A request of size 4 determines its offset and what it carries (R204, R300). -/
theorem busAccess_inj {off off' : BitVec 13} {a a' : Access} (h : busAccess off a = busAccess off' a') : off = off' ∧ a = a' := by
  cases a <;> cases a' <;> cases h <;> exact ⟨rfl, rfl⟩

/-- Every instruction that an access key carries is well formed (R302). -/
theorem wf_of_encode_eq_busAccess {i : Instr} {off : BitVec 13} {a : Access} (h : encode i = busAccess off a) : i.wf = true := by
  cases i with
  | cmdIllegal w => cases a <;> cases h
  | _ => rfl

/-- An offset is made of the fixed bits of its range, the range's free bits, and the alignment bits. -/
theorem fixed_append_extract {m n : Nat} {p : BitVec m} {y : BitVec 2} {off : BitVec 13}
    (hp : p.toNat = off.toNat / 2 ^ (n + 2)) (hy : y.toNat = off.toNat % 4) :
    ((p ++ off.extractLsb' 2 n) ++ y).toNat = off.toNat := by
  rw [toNat_prefix, BitVec.extractLsb'_toNat, hp, hy, Nat.shiftRight_eq_div_pow, Nat.pow_add', ← Nat.div_div_eq_div_mul,
    Nat.div_add_mod' (off.toNat / 2 ^ 2)]
  exact Nat.div_add_mod _ 4

/-- An offset is made of its high bits and the alignment bits. -/
theorem extract_append {off : BitVec 13} {y : BitVec 2} (hy : y.toNat = off.toNat % 4) : off.extractLsb' 2 11 ++ y = off := by
  apply BitVec.eq_of_toNat_eq
  have hlt := off.isLt
  rw [toNat_key, BitVec.extractLsb'_toNat, hy, Nat.shiftRight_eq_div_pow]
  omega

/-- Each register, reserved or free key of the low page re-encodes to its offset (R102, R400). -/
theorem encode_decodeLowPage {off : BitVec 13} (hlow : off.toNat < 0x100) (halign : off.toNat % 4 = 0) (a : Access) :
    encode (decodeLowPage off a) = busAccess off a := by
  obtain ⟨k, hk⟩ := Nat.dvd_of_mod_eq_zero halign
  have hoff : off = BitVec.ofNat 13 (4 * k) := by rw [← hk, BitVec.ofNat_toNat, BitVec.setWidth_eq]
  have hrow : k < 64 := by omega
  clear hk hlow halign
  subst hoff
  interval_cases k <;> cases a <;> rfl

/-- Each aligned key re-encodes to its offset: the free bits of its range are the operand (R102, R106, R203). -/
theorem encode_decodeAligned {off : BitVec 13} (halign : off.toNat % 4 = 0) (a : Access) :
    encode (decodeAligned off a) = busAccess off a := by
  have hlt := off.isLt
  have hfree {m n : Nat} (p : BitVec m) (hmn : m + n + 2 = 13) (hp : p.toNat = off.toNat / 2 ^ (n + 2)) :
      ((p ++ off.extractLsb' 2 n) ++ 0#2).cast hmn = off :=
    BitVec.eq_of_toNat_eq (fixed_append_extract hp halign.symm)
  unfold decodeAligned
  split
  · have hspec := hfree (n := 10) 1#1 rfl (by rw [BitVec.toNat_ofNat]; omega)
    cases a with
    | read => exact congrArg (busAccess · .read) hspec
    | write w => exact congrArg (busAccess · (.write w)) hspec
  split
  · exact congrArg (busAccess · a) (hfree (n := 9) 1#2 rfl (by rw [BitVec.toNat_ofNat]; omega))
  split
  · exact congrArg (busAccess · a) (hfree (n := 8) 1#3 rfl (by rw [BitVec.toNat_ofNat]; omega))
  split
  · exact congrArg (busAccess · a) (hfree (n := 7) 1#4 rfl (by rw [BitVec.toNat_ofNat]; omega))
  split
  · exact congrArg (busAccess · a) (hfree (n := 6) 1#5 rfl (by rw [BitVec.toNat_ofNat]; omega))
  · exact encode_decodeLowPage (by omega) halign a

/-- Each key re-encodes to its offset (R300, R400, R900). -/
theorem encode_decodeKey (off : BitVec 13) (a : Access) : encode (decodeKey off a) = busAccess off a := by
  have halign : (off.extractLsb' 0 2).toNat = off.toNat % 4 := by
    rw [BitVec.extractLsb'_toNat]
    rfl
  rw [decodeKey, halign]
  split
  · exact encode_decodeAligned ‹_› a
  · rename_i hone
    exact congrArg (busAccess · a) (extract_append hone.symm)
  · rename_i htwo
    exact congrArg (busAccess · a) (extract_append htwo.symm)
  · simp only [imp_false] at *
    have hthree : (3#2).toNat = off.toNat % 4 := by rw [BitVec.toNat_ofNat]; omega
    exact congrArg (busAccess · a) (extract_append hthree)

/-- A request that decodes has size 4, and its instruction is its key's (R300). -/
theorem eq_decodeKey_of_decode {r : Request} {i : Instr} (h : decode (.bus r) = .ok i) : i = decodeKey r.off r.access := by
  rw [decode] at h
  split at h
  · exact (Except.ok.inj h).symm
  · cases h

/-- Settles O2: a CMD word and an access key each re-encode to themselves, and only an illegal CMD word could be ill formed. -/
theorem encodeOfDecodeIsIdentity : Obligations.EncodeOfDecodeIsIdentity := by
  intro op i h
  cases op with
  | cmd w =>
    cases h
    exact encode_decodeCmdWord w
  | bus r =>
    rw [eq_decodeKey_of_decode h]
    have hkey := encode_decodeKey r.off r.access
    exact ⟨wf_of_encode_eq_busAccess hkey, hkey⟩

end Sys2Proof

namespace Sys2Proof.Machine

open Laws.RoundTrip (toNat_key toNat_prefix)

/-! ### Accesses without side effect -/

/-- The key of a legal read whose row changes nothing but the answer: an aligned register or SPEC offset other than PKT_DATA and,
where H_ADDR ≥ P_H_MAX, H_DATA (R205). -/
structure PlainRead (s : State) (off : BitVec 13) : Prop where
  aligned : off.toNat % 4 = 0
  listed : RegisterOffset off.toNat ∨ 0x1000 ≤ off.toNat
  notPktData : off.toNat ≠ 0x074
  hDataInRange : off.toNat = 0x058 → s.hAddr.toNat < s.par.hMax

/-- A plain read of H_DATA answers with the entry (R412). -/
theorem execRdHData_of_lt {s : State} (h : s.hAddr.toNat < s.par.hMax) :
    execRdHData s = .next (s.answerRead (s.hRead s.hAddr.toNat)) := by
  rw [execRdHData, if_neg (Nat.not_le.mpr h), readRegister]

/-- A plain read has a row of its own, which answers and does nothing else (R103, R205). -/
theorem exec_plainRead {i : Instr} {s : State} {off : BitVec 13} (hi : encode i = busAccess off .read) (h : PlainRead s off) :
    ∃ v, exec i s = .next (s.answerRead v) := by
  cases i with
  | rdHData =>
    cases hi
    exact ⟨_, execRdHData_of_lt (h.hDataInRange rfl)⟩
  | rdPktData =>
    cases hi
    exact absurd rfl h.notPktData
  | rdId | rdVersion | rdCmd | rdStatus | rdErr | rdCfgErr | rdIrqStatus | rdIrqEnable
  | rdFsHz | rdRsHz | rdDemodCfg | rdNsym | rdAcqCfg | rdStatsCfg | rdUwCfg | rdUwLo | rdUwHi | rdFrameGap | rdLdpcNk
  | rdLdpcAlg | rdHLen | rdHAddr | rdSampleData | rdSampCount | rdSampFree | rdPktCount | rdPktWords
  | rdCntBlocks | rdCntBits | rdCntSyncAcq | rdCntSyncLoss | rdCntUwMiss | rdCntFrames | rdCntFecFail | rdCntCrcFail
  | rdCntPktOk | rdCntLowSignal | rdCntSampDrop | rdLastDecode | rdLastUw
  | rdStSeq | rdStF0 | rdStF1 | rdStTiming | rdStNout | rdStSig | rdStNoise | rdStEavg | rdStFlags | rdStPeaks | rdStBlock
  | rdSpec =>
    exact ⟨_, rfl⟩
  | reserved05C | reserved06C | reserved07C | reserved0B4 | reserved0B8 | reserved0BC | reserved0EC =>
    obtain ⟨rfl, -⟩ := busAccess_inj hi
    have hlisted := h.listed
    simp [RegisterOffset] at hlisted
  | reserved0F0 j | reserved100 j | reserved200 j | reserved400 j | reserved800 j =>
    obtain ⟨rfl, -⟩ := busAccess_inj hi
    have hlisted := h.listed
    have hj := j.isLt
    rw [RegisterOffset, toNat_prefix] at hlisted
    simp only [BitVec.toNat_ofNat] at hlisted
    omega
  | misaligned1 | misaligned2 | misaligned3 =>
    obtain ⟨rfl, -⟩ := busAccess_inj hi
    have haligned := h.aligned
    rw [toNat_key] at haligned
    simp only [BitVec.toNat_ofNat] at haligned
    omega
  -- commands and writes
  | _ => cases hi

/-- Settles O32: a legal read decodes to the row of its key, which for a plain read answers and does nothing else. -/
theorem readsHaveNoSideEffect : Obligations.ReadsHaveNoSideEffect := by
  intro r s t hkind ⟨hsize, haligned, hlisted⟩ hpkt hdata hrun
  have haccess : r.access = .read := by rw [Request.access, hkind]
  have hdecode : decode (.bus r) = .ok (decodeKey r.off .read) := by rw [decode, if_pos hsize, haccess]
  obtain ⟨v, hexec⟩ := exec_plainRead (encode_decodeKey r.off .read) ⟨haligned, hlisted, hpkt, hdata⟩
  cases (hexec.symm.trans (runHost_of_decode hdecode s).symm).trans hrun
  rfl

end Sys2Proof.Machine
end

section
/-! SUPPORT. The round trip of the encoder (R300, R301, R400); the rows that CMD words decode to (R301, R404); and the sample and packet
words as integers (R320, R340). -/

namespace Sys2Proof

/-! ### Decoding what the encoder writes -/

/-- Settles O1: a key without free offset bits evaluates, whatever the access carries; the rows with free bits and the illegal CMD
words have their round trips in Laws.RoundTrip. -/
theorem decodeOfEncodeIsIdentity : Obligations.DecodeOfEncodeIsIdentity := by
  intro i hwf
  cases i with
  | nop | softReset | configure | start | stop | resync | clearCounters | flushPackets => rfl
  | cmdIllegal w => exact Laws.RoundTrip.cmdIllegal w hwf
  | rdSpec k => exact Laws.RoundTrip.rdSpec k hwf
  | wrSpec k w => exact Laws.RoundTrip.wrSpec k w hwf
  | reserved0F0 j a => exact Laws.RoundTrip.reserved0F0 j a hwf
  | reserved100 j a => exact Laws.RoundTrip.reserved100 j a hwf
  | reserved200 j a => exact Laws.RoundTrip.reserved200 j a hwf
  | reserved400 j a => exact Laws.RoundTrip.reserved400 j a hwf
  | reserved800 j a => exact Laws.RoundTrip.reserved800 j a hwf
  | misaligned1 hi a => exact Laws.RoundTrip.misaligned1 hi a hwf
  | misaligned2 hi a => exact Laws.RoundTrip.misaligned2 hi a hwf
  | misaligned3 hi a => exact Laws.RoundTrip.misaligned3 hi a hwf
  -- the registers, and the reserved offsets that stand alone
  | _ =>
    rw [encode, Laws.RoundTrip.decode_busAccess]
    rfl

end Sys2Proof

namespace Sys2Proof.Machine

/-! ### CMD words -/

/-- The row a CMD word decodes to completes as the word's command does (R500). -/
theorem exec_decodeCmdWord (w : Word) (s : State) : exec (decodeCmdWord w) s = commandOutcome (executeCommand w s) := by
  unfold decodeCmdWord executeCommand
  cases decodeCommand w with
  | none => rfl
  | some k => cases k <;> rfl

/-- The default CMD row is the row of exactly the illegal words (R301, R302). -/
theorem decodeCmdWord_eq_cmdIllegal_iff (w : Word) : decodeCmdWord w = .cmdIllegal w ↔ (Instr.cmdIllegal w).wf = true :=
  ⟨fun h => h ▸ (encode_decodeCmdWord w).1, fun h => Except.ok.inj (Laws.RoundTrip.cmdIllegal w h)⟩

/-- Settles O21: WR_CMD and the row its word decodes to both execute the word's command, and the default row is the illegal words'. -/
theorem cmdWriteExecutesTheCommand : Obligations.CmdWriteExecutesTheCommand :=
  ⟨fun w s => ⟨(executeCommand w s).answerWrite, rfl, exec_decodeCmdWord w s, rfl⟩,
    fun w => (decodeCmdWord_eq_cmdIllegal_iff w).trans decide_eq_true_iff,
    fun _ _ => rfl, rfl, rfl, rfl, rfl, rfl, rfl, rfl, rfl⟩

/-! ### Sample words and packet words -/

/-- An 8-bit component of a word as an integer: no value leaves the 16-bit range (R320). -/
theorem toInt_offsetBinary_wordByte (w : Word) (i : Nat) :
    (offsetBinary (wordByte w i)).toInt = (((w.toNat / 256 ^ i % 256 : Nat) : Int) - 128) * 256 := by
  have hbyte : (wordByte w i).toNat = w.toNat / 256 ^ i % 256 := by
    rw [wordByte, BitVec.extractLsb'_toNat, Nat.shiftRight_eq_div_pow, Nat.pow_mul]
  rw [offsetBinary, hbyte, BitVec.toInt_ofInt_eq_self] <;> omega

/-- Byte `t` of a packet as an integer (R340). -/
theorem toNat_packetByte (pkt : List Byte) (t : Nat) :
    (packetByte pkt t).toNat = if h : t < pkt.length then pkt[t].toNat else 0 := by
  rw [packetByte, List.getD_eq_getElem?_getD]
  split <;> simp [*]

/-- A byte put below a bit vector is the last digit of its value in base 256. -/
theorem toNat_append_byte {n : Nat} (x : BitVec n) (b : Byte) : (x ++ b).toNat = x.toNat * 256 + b.toNat := by
  rw [BitVec.toNat_append, ← Nat.shiftLeft_add_eq_or_of_lt b.isLt, Nat.shiftLeft_eq]

/-- Word `j` of a packet is the sum of its bytes, byte 4j the least (R340). -/
theorem toNat_packetWord (pkt : List Byte) (j : Nat) :
    (packetWord pkt j).toNat = ((List.range 4).map fun i => (packetByte pkt (4 * j + i)).toNat * 2 ^ (8 * i)).sum := by
  rw [packetWord, toNat_append_byte, toNat_append_byte, toNat_append_byte]
  simp only [List.sum_range_succ, List.range_zero, List.map_nil, List.sum_nil, Nat.add_zero]
  omega

/-- Settles O19: a sample word's parts and a packet word's bytes as integers; the words per packet are linear arithmetic in K. -/
theorem sampleAndPacketWordFormats : Obligations.SampleAndPacketWordFormats := by
  refine ⟨fun w => ?_, ⟨rfl, rfl, rfl, rfl⟩, fun pkt j => ?_, fun c hk => ⟨rfl, ?_⟩⟩
  · have hreal : (0 : BitVec 16).toInt = 0 := rfl
    simp only [convertSamples, List.map_cons, List.map_nil, Sample.toCplx, toInt_offsetBinary_wordByte, hreal, and_self]
  · simp only [toNat_packetWord, toNat_packetByte]
  · rw [CfgRegs.pktWords, CfgRegs.pktBytes]
    omega

end Sys2Proof.Machine
end

section
/-! SUPPORT. The rows of the code graph, as the runs of H entries that end at an entry with END = 1 (R330, R800). -/

namespace Sys2Proof.Machine

/-! ### The runs, entry by entry -/

/-- The entries before which `m` entries have END = 1, in entry order (R800). -/
def entryRun (es : List Word) (m : Nat) : List Word :=
  (es.zipIdx.filter fun (_, i) => ((es.take i).filter entryEnd).length == m).map Prod.fst

@[simp] theorem entryRun_nil (m : Nat) : entryRun [] m = [] := rfl

/-- Entry `e` is in run 0, and each later one comes after `e`'s END besides those of `es`. -/
theorem entryRun_cons (e : Word) (es : List Word) (m : Nat) :
    entryRun (e :: es) m = (if m = 0 then [e] else []) ++
      (es.zipIdx.filter fun (_, i) => ((e :: es.take i).filter entryEnd).length == m).map Prod.fst := by
  have hlater : (es.zipIdx 1).filter (fun (_, i) => (((e :: es).take i).filter entryEnd).length == m) =
      (es.zipIdx.filter fun (_, i) => ((e :: es.take i).filter entryEnd).length == m).map fun (e', i) => (e', i + 1) := by
    rw [List.zipIdx_succ, List.filter_map]
    rfl
  rw [entryRun, List.zipIdx_cons, List.filter_cons, hlater]
  cases m <;> simp

/-- An entry with END = 0 opens run 0 and leaves the runs after it alone. -/
theorem entryRun_cons_open {e : Word} (he : entryEnd e = false) (es : List Word) (m : Nat) :
    entryRun (e :: es) m = (if m = 0 then [e] else []) ++ entryRun es m := by
  rw [entryRun_cons, entryRun]
  simp [he]

/-- An entry with END = 1 ends run 0. -/
theorem entryRun_cons_end_zero {e : Word} (he : entryEnd e = true) (es : List Word) : entryRun (e :: es) 0 = [e] := by
  rw [entryRun_cons]
  simp [he]

/-- After an entry with END = 1 come the runs of the other entries. -/
theorem entryRun_cons_end_succ {e : Word} (he : entryEnd e = true) (es : List Word) (m : Nat) :
    entryRun (e :: es) (m + 1) = entryRun es m := by
  rw [entryRun_cons, entryRun]
  simp [he]

/-- No entry of a run but its last has END = 1. -/
theorem entryEnd_of_mem_dropLast_entryRun {es : List Word} {m : Nat} {x : Word} (hx : x ∈ (entryRun es m).dropLast) :
    entryEnd x = false := by
  induction es generalizing m with
  | nil => cases hx
  | cons e es ih =>
    cases he : entryEnd e with
    | true =>
      cases m with
      | zero =>
        rw [entryRun_cons_end_zero he] at hx
        cases hx
      | succ m =>
        rw [entryRun_cons_end_succ he] at hx
        exact ih hx
    | false =>
      rw [entryRun_cons_open he] at hx
      cases m with
      | zero =>
        cases hrun : entryRun es 0 with
        | nil =>
          rw [hrun] at hx
          cases hx
        | cons y ys =>
          rw [hrun] at hx
          rcases List.mem_cons.mp hx with rfl | hx
          · exact he
          · exact ih (hrun ▸ hx)
      | succ m => exact ih hx

/-- Each of the first runs, as many as entries have END = 1, ends at such an entry. -/
theorem entryRun_getLast?_of_lt {es : List Word} {m : Nat} (hm : m < (es.filter entryEnd).length) :
    ∃ e, (entryRun es m).getLast? = some e ∧ entryEnd e = true := by
  induction es generalizing m with
  | nil => cases hm
  | cons e es ih =>
    cases he : entryEnd e with
    | true =>
      rw [List.filter_cons_of_pos he, List.length_cons] at hm
      cases m with
      | zero => exact ⟨e, by rw [entryRun_cons_end_zero he]; rfl, he⟩
      | succ m =>
        rw [entryRun_cons_end_succ he]
        exact ih (Nat.lt_of_succ_lt_succ hm)
    | false =>
      rw [List.filter_cons_of_neg (by simp [he])] at hm
      obtain ⟨x, hx, hend⟩ := ih hm
      exact ⟨x, by rw [entryRun_cons_open he, List.getLast?_append, hx, Option.some_or], hend⟩

/-! ### The rows -/

/-- The rows are the runs' variables, row 0 with the open row's before them (R800). -/
theorem graphRowsFrom_getD (acc : List Nat) (es : List Word) (m : Nat) :
    (graphRowsFrom acc es).getD m [] = (if m = 0 then acc.reverse else []) ++ (entryRun es m).map entryVar := by
  induction es generalizing acc m with
  | nil => cases acc <;> cases m <;> simp [graphRowsFrom]
  | cons e es ih =>
    rw [graphRowsFrom]
    cases he : entryEnd e with
    | true =>
      cases m with
      | zero => simp [entryRun_cons_end_zero he]
      | succ m => simpa [entryRun_cons_end_succ he] using ih [] m
    | false =>
      rw [if_neg Bool.false_ne_true, ih, entryRun_cons_open he]
      cases m <;> simp

/-- Put together the rows are the open row's variables and then all the others', in entry order. -/
theorem graphRowsFrom_flatten (acc : List Nat) (es : List Word) :
    (graphRowsFrom acc es).flatten = acc.reverse ++ es.map entryVar := by
  induction es generalizing acc with
  | nil => cases acc <;> simp [graphRowsFrom]
  | cons e es ih =>
    rw [graphRowsFrom]
    split <;> simp [ih]

/-- No row is empty: a row is closed after an entry, and the open row is a row only where it has an entry. -/
theorem ne_nil_of_mem_graphRowsFrom {acc : List Nat} {es : List Word} {r : List Nat} (hr : r ∈ graphRowsFrom acc es) : r ≠ [] := by
  induction es generalizing acc with
  | nil =>
    cases acc with
    | nil => cases hr
    | cons v vs =>
      rw [List.mem_singleton.mp hr]
      exact List.reverse_ne_nil_iff.mpr (List.cons_ne_nil v vs)
  | cons e es ih =>
    rw [graphRowsFrom] at hr
    split at hr
    · rcases List.mem_cons.mp hr with rfl | hr
      · simp
      · exact ih hr
    · exact ih hr

/-- Where no row stays open there are as many rows as entries with END = 1. -/
theorem graphRowsFrom_length {acc : List Nat} {es : List Word} (hacc : es = [] → acc = [])
    (hlast : ∀ e, es.getLast? = some e → entryEnd e = true) :
    (graphRowsFrom acc es).length = (es.filter entryEnd).length := by
  induction es generalizing acc with
  | nil => rw [hacc rfl]; rfl
  | cons e es ih =>
    have hrest : ∀ x, es.getLast? = some x → entryEnd x = true := fun x hx => hlast x (by rw [List.getLast?_cons, hx]; rfl)
    rw [graphRowsFrom]
    cases he : entryEnd e with
    | true => simp [he, ih (fun _ => rfl) hrest]
    | false =>
      have hes : es ≠ [] := fun h => by
        subst h
        simp [he] at hlast
      simp [he, ih (fun h => absurd h hes) hrest]

/-- VAR is bits [15:0] of an entry (R330). -/
theorem entryVar_eq (e : Word) : entryVar e = e.toNat % 2 ^ 16 := by
  rw [entryVar, field, BitVec.extractLsb'_toNat, Nat.shiftRight_zero]

/-- END is bit 31 of an entry (R330). -/
theorem entryEnd_iff (e : Word) : entryEnd e = true ↔ 2 ^ 31 ≤ e.toNat := by
  rw [entryEnd, BitVec.getLsbD_last e, decide_eq_true_iff]

/-- Settles O27, from the rows' equations with no row open before the first entry. -/
theorem graphRowsAreEntryRuns : Obligations.GraphRowsAreEntryRuns := by
  refine ⟨fun e => ⟨entryVar_eq e, entryEnd_iff e⟩, fun es => ⟨fun m => ?_, fun m e => entryEnd_of_mem_dropLast_entryRun,
    graphRowsFrom_flatten [] es, fun r => ne_nil_of_mem_graphRowsFrom, fun hlast => ?_⟩⟩
  · exact (graphRowsFrom_getD [] es m).trans (by cases m <;> rfl)
  · have hlength : (graphRows es).length = (es.filter entryEnd).length := graphRowsFrom_length (fun _ => rfl) hlast
    exact ⟨hlength, fun m hm => entryRun_getLast?_of_lt (hlength ▸ hm)⟩

end Sys2Proof.Machine
end

section
/-! SUPPORT. The host's registers and ports (40_host_access.md): what a read answers with and what a write stores, register by
register (R401 to R491), with the bits of STATUS and IRQ_STATUS (R110, R113), the slices of the configuration registers (R116 to
R119), and that every step keeps the packets checked (R822). -/

namespace Sys2Proof.Machine

/-! ### Reads and writes of a register -/

/-- The answer to a read may be written in another form. -/
theorem ReadsAs.of_eq {i : Instr} {v v' : State → Word} (h : ReadsAs i v) (hv : ∀ s, v s = v' s) : ReadsAs i v' :=
  (funext hv : v = v') ▸ h

/-- What a write does may be written in another form. -/
theorem WritesAs.of_eq {i : Instr} {f f' : State → State} (h : WritesAs i f) (hf : ∀ s, f s = f' s) : WritesAs i f' :=
  (funext hf : f = f') ▸ h

/-- An arm that ignores its write answers OKAY and changes nothing (R401). -/
theorem WritesAs.of_ignored {i : Instr} (h : ∀ s, exec i s = ignoreWrite s) : WritesAs i id := h

/-! ### The packets, step by step -/

/-- Which packets wait depends on nothing outside the core (R822). -/
theorem State.PacketsChecked.of_sameCore {s t : State} (h : SameCore s t) (hs : s.PacketsChecked) : t.PacketsChecked := by
  cases h
  exact hs

/-- Settles O55: no effect on the core leaves a packet that failed the checksum, and nothing else bears on the packets. -/
theorem stepKeepsPacketsChecked : Obligations.StepKeepsPacketsChecked := fun _ _ hs h =>
  step_keeps (fun _ _ => State.PacketsChecked.of_sameCore) (fun _ _ => CoreEffect.packetsChecked) h hs

/-! ### H_MEM's port -/

/-- In RUN an H_DATA write is refused with H_STATE (R411). -/
theorem State.writeHData_of_run {s : State} {c : CfgRegs} (h : s.mode = .run c) (w : Word) :
    s.writeHData w = s.setErr .hState := by
  rcases s.writeHData_cases w with ⟨-, hw⟩ | ⟨hrun, -⟩ | ⟨hrun, -⟩
  · exact hw
  · exact absurd h (hrun c)
  · exact absurd h (hrun c)

/-- Outside RUN an H_DATA write at H_ADDR ≥ P_H_MAX is refused with H_RANGE (R411). -/
theorem State.writeHData_of_le {s : State} (hrun : ∀ c, s.mode ≠ .run c) (haddr : s.par.hMax ≤ s.hAddr.toNat) (w : Word) :
    s.writeHData w = s.setErr .hRange := by
  rcases s.writeHData_cases w with ⟨⟨c, hc⟩, -⟩ | ⟨-, -, hw⟩ | ⟨-, hlt, -⟩
  · exact absurd hc (hrun c)
  · exact hw
  · exact absurd haddr (Nat.not_le.mpr hlt)

/-- Outside RUN an H_DATA write at H_ADDR < P_H_MAX is accepted (R411). -/
theorem State.writeHData_of_lt {s : State} (hrun : ∀ c, s.mode ≠ .run c) (haddr : s.hAddr.toNat < s.par.hMax) (w : Word) :
    s.writeHData w = s.storeH w := by
  rcases s.writeHData_cases w with ⟨⟨c, hc⟩, -⟩ | ⟨-, hle, -⟩ | ⟨-, -, hw⟩
  · exact absurd hc (hrun c)
  · exact absurd haddr (Nat.not_lt.mpr hle)
  · exact hw

/-- Moving a 16-bit address on is addition mod 2^16 (R411). -/
theorem add_one_eq_ofNat_mod (a : BitVec 16) : a + 1 = BitVec.ofNat 16 ((a.toNat + 1) % 2 ^ 16) := by
  apply BitVec.eq_of_toNat_eq
  rw [BitVec.toNat_add, BitVec.toNat_ofNat, Nat.mod_mod]
  rfl

/-- An accepted H_DATA write, field by field (R411). -/
theorem State.storeH_eq (s : State) (w : Word) :
    s.storeH w = { s with
      hmem := s.hmem.store s.hAddr.toNat w
      hAddr := BitVec.ofNat 16 ((s.hAddr.toNat + 1) % 2 ^ 16)
      mode := s.mode.afterHWrite } := by
  rw [← add_one_eq_ofNat_mod]
  rfl

/-- Settles O16: the three cases of the write exclude each other, and an accepted one stores at H_ADDR alone. -/
theorem hDataWriteStoresOneEntry : Obligations.HDataWriteStoresOneEntry := by
  intro w s
  have hexec : exec (.wrHData w) s = .next (s.writeHData w).answerWrite := rfl
  refine ⟨fun c hc => ?_, fun hrun hle => ?_, fun hrun hlt => ⟨s.hmem.store s.hAddr.toNat w, ?_, ?_, fun a ha => ?_⟩⟩
  · rw [hexec, State.writeHData_of_run hc]
    rfl
  · rw [hexec, State.writeHData_of_le hrun hle]
    rfl
  · rw [hexec, State.writeHData_of_lt hrun hlt, State.storeH_eq]
    rfl
  · exact s.storeH_hRead_same w
  · exact s.storeH_hRead_other w a ha

/-- A read of H_DATA at H_ADDR ≥ P_H_MAX records H_RANGE and answers 0 (R412). -/
theorem execRdHData_of_le {s : State} (h : s.par.hMax ≤ s.hAddr.toNat) :
    execRdHData s = .next ((s.setErr .hRange).answerRead 0) := by
  rw [execRdHData, if_pos h, readRegister]

/-- Settles O17: H_ADDR is a plain 16-bit register, and an H_DATA read is in range or not. -/
theorem hAddrAndHDataReads : Obligations.HAddrAndHDataReads := by
  have haddr : ReadsAs .rdHAddr (fun s => s.hAddr.setWidth 32) := fun _ => rfl
  refine ⟨haddr.of_eq fun _ => BitVec.setWidth_eq_append (by decide), fun _ _ => rfl, fun s =>
    ⟨execRdHData_of_le, execRdHData_of_lt, fun a ha => s.hRead_of_not_written a (Memory.find_eq_none s.hmem a ha)⟩⟩

/-! ### The sample port and the packet port -/

/-- There is no active configuration exactly in IDLE and CFG_ERROR (R120). -/
theorem Mode.active_eq_none_iff {m : Mode} : m.active = none ↔ m = .idle ∨ m = .cfgError := by
  cases m <;> simp [Mode.active]

/-- READY and RUN carry the active configuration (R120). -/
theorem Mode.active_eq_some_iff {m : Mode} {c : CfgRegs} : m.active = some c ↔ m = .ready c ∨ m = .run c := by
  cases m <;> simp [Mode.active]

/-- Without an active configuration a SAMPLE_DATA write is refused with SAMP_STATE (R420). -/
theorem State.writeSampleData_of_inactive {s : State} (h : s.mode.active = none) (w : Word) :
    s.writeSampleData w = s.setErr .sampState := by
  rcases s.writeSampleData_cases w with ⟨-, hw⟩ | ⟨c, hc, -⟩
  · exact hw
  · cases hc.symm.trans h

/-- With an active configuration a SAMPLE_DATA write is dropped whole or pushed whole by its format (R420). -/
theorem State.writeSampleData_of_active {s : State} {c : CfgRegs} (h : s.mode.active = some c) (w : Word) :
    s.writeSampleData w = s.acceptSampleWord c w := by
  rcases s.writeSampleData_cases w with ⟨hnone, -⟩ | ⟨c', hc', hw⟩
  · cases hnone.symm.trans h
  · cases hc'.symm.trans h
    exact hw

/-- Settles O18: a word is accepted only under an active configuration, and there is room for all its samples or there is not. -/
theorem sampleWriteIsWholeOrDropped : Obligations.SampleWriteIsWholeOrDropped := by
  intro w s
  have hexec : exec (.wrSampleData w) s = .next (s.writeSampleData w).answerWrite := rfl
  refine ⟨fun hm => ?_, fun c hm => ?_⟩
  · rw [hexec, State.writeSampleData_of_inactive (Mode.active_eq_none_iff.mpr hm)]
    rfl
  · rw [hexec, State.writeSampleData_of_active (Mode.active_eq_some_iff.mpr hm)]
    rcases s.acceptSampleWord_cases c w with ⟨hfull, hw⟩ | ⟨hroom, hw⟩ <;> rw [hw]
    · exact ⟨fun _ => rfl, fun h => absurd h (Nat.not_le.mpr hfull)⟩
    · exact ⟨fun h => absurd hroom (Nat.not_le.mpr h), fun _ => rfl⟩

/-- A read of PKT_DATA with no packet waiting records PKT_UNDERFLOW and answers 0 (R430). -/
theorem execRdPktData_nil {s : State} (h : s.pktFifo = []) :
    execRdPktData s = .next ((s.setErr .pktUnderflow).answerRead 0) := by
  simp only [execRdPktData, h, readRegister]

/-- A read of PKT_DATA answers with word RD_WORD of the oldest packet and moves on (R430). -/
theorem execRdPktData_cons {s : State} {pkt : List Byte} {rest : List (List Byte)} (h : s.pktFifo = pkt :: rest) :
    execRdPktData s = .next (s.advancePacket.answerRead (packetWord pkt s.rdWord)) := by
  simp only [execRdPktData, h, readRegister]

/-- Settles O20: a read of PKT_DATA finds no packet, a packet with a word to come, or a packet at its last word. -/
theorem fifoPortReads : Obligations.FifoPortReads := by
  refine ⟨⟨fun _ => rfl, fun _ => rfl, fun _ => rfl, fun _ => rfl⟩, fun s => ⟨execRdPktData_nil, fun pkt rest hpkt => ?_⟩⟩
  have hexec : exec .rdPktData s = .next (s.advancePacket.answerRead (packetWord pkt s.rdWord)) := execRdPktData_cons hpkt
  rw [hexec]
  rcases s.advancePacket_cases with ⟨hlast, hadv⟩ | ⟨hmore, hadv⟩ <;> rw [hadv]
  · refine ⟨fun h => absurd hlast h, fun _ => ?_⟩
    rw [hpkt]
    rfl
  · exact ⟨fun _ => rfl, fun h => absurd h hmore⟩

/-! ### Identity, status, errors and interrupts -/

/-- Settles O7: each arm of a write to a read-only register ignores it, and the four reads answer with constants. -/
theorem constantsAndIgnoredWrites : Obligations.ConstantsAndIgnoredWrites := by
  refine ⟨⟨fun _ => rfl, fun _ => rfl, fun _ => rfl, fun _ => rfl⟩, fun w => ?_, fun w => ?_, fun w => ?_,
    fun k w => .of_ignored fun _ => rfl⟩
  all_goals
    and_intros
    all_goals exact .of_ignored fun _ => rfl

/-- The bits of STATUS (R110). -/
theorem State.status_getLsbD (s : State) (k : Nat) :
    s.status.getLsbD k =
      if k < 2 then s.mode.code.getLsbD k else if k = 2 then s.sync else if k = 3 then s.demod.fValid
      else if k = 4 then s.demod.lowSig else if k = 5 then s.hold else if k = 6 then s.starved else false := by
  unfold State.status
  rw [BitVec.getLsbD_append (n := 30) (m := 2), BitVec.getLsbD_append (n := 29) (m := 1),
    BitVec.getLsbD_append (n := 28) (m := 1), BitVec.getLsbD_append (n := 27) (m := 1),
    BitVec.getLsbD_append (n := 26) (m := 1), BitVec.getLsbD_append (n := 25) (m := 1)]
  by_cases hk : k < 7
  · interval_cases k <;> simp
  · obtain ⟨j, rfl⟩ := Nat.exists_eq_add_of_le' (Nat.not_lt.mp hk)
    simp

/-- HOLD: in RUN a block waits and PKT_FIFO lacks room for Pmax packets (R110). -/
theorem State.hold_iff (s : State) :
    s.hold = true ↔ ∃ c, s.mode = .run c ∧ c.blockLen ≤ s.sampCount ∧ s.pktFree < c.pMax := by
  unfold State.hold
  cases s.mode <;> simp

/-- STARVED: in RUN fewer samples wait than a block has (R110). -/
theorem State.starved_iff (s : State) : s.starved = true ↔ ∃ c, s.mode = .run c ∧ s.sampCount < c.blockLen := by
  unfold State.starved
  cases s.mode <;> simp

/-- SYNC: the framer is Synchronized (R110). -/
theorem State.sync_iff (s : State) : s.sync = true ↔ s.framer.fstate = .synchronized := beq_iff_eq

/-- Settles O8: STATUS holds its seven fields at R110's places and zeros above them. -/
theorem statusReadComposesState : Obligations.StatusReadComposesState := by
  intro s
  refine ⟨s.status, rfl, ?_, ?_, s.status_getLsbD 3, s.status_getLsbD 4, ?_, ?_, ?_⟩
  · rw [State.status, BitVec.extractLsb'_append_eq_right]
    cases s.mode <;> rfl
  · exact (s.status_getLsbD 2) ▸ s.sync_iff
  · exact (s.status_getLsbD 5) ▸ s.hold_iff
  · exact (s.status_getLsbD 6) ▸ s.starved_iff
  · refine BitVec.eq_of_getLsbD_eq fun i hi => ?_
    rw [BitVec.getLsbD_extractLsb', State.status_getLsbD, BitVec.getLsbD_zero]
    grind

/-- The bits of IRQ_STATUS (R113). -/
theorem State.irqStatus_getLsbD (s : State) (k : Nat) :
    s.irqStatus.getLsbD k =
      if k = 0 then decide (0 < s.pktCount) else if k = 1 then s.irq.stats else if k = 2 then s.irq.syncChg
      else if k = 3 then decide (s.err ≠ 0) else if k = 4 then s.irq.cfgDone else false := by
  unfold State.irqStatus
  rw [BitVec.getLsbD_append (n := 4) (m := 1), BitVec.getLsbD_append (n := 3) (m := 1),
    BitVec.getLsbD_append (n := 2) (m := 1), BitVec.getLsbD_append (n := 1) (m := 1)]
  by_cases hk : k < 5
  · interval_cases k <;> simp [bne, beq_eq_decide]
  · obtain ⟨j, rfl⟩ := Nat.exists_eq_add_of_le' (Nat.not_lt.mp hk)
    simp

/-- Settles O9: ERR and CFG_ERR read with zeros above them, and ERR ≠ 0 is bit 3 of IRQ_STATUS. -/
theorem errReadsAndClears : Obligations.ErrReadsAndClears := by
  have herr : ReadsAs .rdErr (fun s => s.err.setWidth 32) := fun _ => rfl
  have hcfg : ReadsAs .rdCfgErr (fun s => s.cfgErr.setWidth 32) := fun _ => rfl
  exact ⟨herr.of_eq fun _ => BitVec.setWidth_eq_append (by decide), hcfg.of_eq fun _ => BitVec.setWidth_eq_append (by decide),
    fun _ _ => rfl, fun s => s.irqStatus_getLsbD 3⟩

/-- A write to IRQ_STATUS clears the sticky bits written as 1 (R410). -/
theorem State.clearIrq_eq (s : State) (w : Word) :
    s.clearIrq w = { s with
      irq :=
        { stats := if w.getLsbD 1 then false else s.irq.stats
          syncChg := if w.getLsbD 2 then false else s.irq.syncChg
          cfgDone := if w.getLsbD 4 then false else s.irq.cfgDone } } := by
  have hclear (written sticky : Bool) : (sticky && !written) = if written then false else sticky := by
    cases written <;> simp
  simp only [State.clearIrq, hclear]

/-- A bit vector is not 0 iff one of its bits is 1. -/
theorem ne_zero_iff_exists_getLsbD {n : Nat} {x : BitVec n} : x ≠ 0 ↔ ∃ b, b < n ∧ x.getLsbD b = true := by
  constructor
  · intro hx
    obtain ⟨b, hb⟩ := not_forall.mp (mt BitVec.zero_iff_eq_false.mpr hx)
    have hset : x.getLsbD b = true := Bool.eq_true_of_not_eq_false hb
    exact ⟨b, BitVec.lt_of_getLsbD hset, hset⟩
  · rintro ⟨b, -, hb⟩ hx
    cases hb.symm.trans (BitVec.zero_iff_eq_false.mp hx b)

/-- The interrupt output: some bit is raised and enabled (R910). -/
theorem State.irqOutput_iff (s : State) :
    s.irqOutput = true ↔ ∃ b, b < 5 ∧ s.irqStatus.getLsbD b = true ∧ s.irqEnable.getLsbD b = true := by
  rw [State.irqOutput, bne_iff_ne, ne_zero_iff_exists_getLsbD]
  simp only [BitVec.getLsbD_and, Bool.and_eq_true]

/-- Settles O10: IRQ_STATUS holds its five bits at R113's places; its write and the output bit by bit. -/
theorem interruptRegistersAndOutput : Obligations.InterruptRegistersAndOutput := by
  have hstatus (s : State) (k : Nat) (hk : k < 5) : (s.irqStatus.setWidth 32).getLsbD k = s.irqStatus.getLsbD k := by
    rw [BitVec.getLsbD_setWidth, decide_eq_true (by omega), Bool.true_and]
  have henable : ReadsAs .rdIrqEnable (fun s => s.irqEnable.setWidth 32) := fun _ => rfl
  have hclear (w : Word) : WritesAs (.wrIrqStatus w) (·.clearIrq w) := fun _ => rfl
  refine ⟨fun s => ⟨s.irqStatus.setWidth 32, rfl, ?_, ?_, ?_, ?_, ?_, ?_⟩,
    fun w => (hclear w).of_eq fun s => s.clearIrq_eq w,
    henable.of_eq fun _ => BitVec.setWidth_eq_append (by decide), fun _ _ => rfl, State.irqOutput_iff⟩
  · exact (hstatus s 0 (by decide)).trans (s.irqStatus_getLsbD 0)
  · exact (hstatus s 1 (by decide)).trans (s.irqStatus_getLsbD 1)
  · exact (hstatus s 2 (by decide)).trans (s.irqStatus_getLsbD 2)
  · exact (hstatus s 3 (by decide)).trans (s.irqStatus_getLsbD 3)
  · exact (hstatus s 4 (by decide)).trans (s.irqStatus_getLsbD 4)
  · have hwide : s.irqStatus.setWidth 32 = 0#27 ++ s.irqStatus := BitVec.setWidth_eq_append (by decide)
    rw [hwide]
    exact BitVec.extractLsb'_append_eq_left

/-! ### The shadow configuration registers -/

/-- A field as an integer: its bits shifted down, the higher ones cut off (R103). -/
theorem field_eq (w : Word) (lo len : Nat) : field w lo len = w.toNat / 2 ^ lo % 2 ^ len := by
  rw [field, BitVec.extractLsb'_toNat, Nat.shiftRight_eq_div_pow]

/-- A field that starts at bit 0. -/
theorem field_zero (w : Word) (len : Nat) : field w 0 len = w.toNat % 2 ^ len := by
  rw [field_eq, Nat.pow_zero, Nat.div_one]

/-- A field that ends at bit 31 has no higher bits to cut off. -/
theorem field_top (w : Word) {lo len : Nat} (h : lo + len = 32) : field w lo len = w.toNat / 2 ^ lo := by
  rw [field_eq, Nat.mod_eq_of_lt]
  rw [Nat.div_lt_iff_lt_mul (Nat.two_pow_pos lo), ← Nat.pow_add, Nat.add_comm, h]
  exact w.isLt

/-- ACQ_CENTER is `sext_16` of the low half of ACQ_CFG (R117, R310). -/
theorem CfgRegs.acqCenter_eq (c : CfgRegs) :
    c.acqCenter =
      ((c.acqCfg.toNat % 2 ^ 16 : Nat) : Int) - (if c.acqCfg.toNat % 2 ^ 16 < 2 ^ 15 then 0 else 2 ^ 16) := by
  have hlow : (c.acqCfg.extractLsb' 0 16).toNat = c.acqCfg.toNat % 2 ^ 16 := field_zero c.acqCfg 16
  rw [CfgRegs.acqCenter, BitVec.toInt_eq_toNat_cond, hlow]
  split <;> split <;> omega

/-- The unique word is UW_HI above UW_LO (R118). -/
theorem CfgRegs.uniqueWord_toNat (c : CfgRegs) : c.uniqueWord.toNat = c.uwHi.toNat * 2 ^ 32 + c.uwLo.toNat := by
  rw [CfgRegs.uniqueWord, BitVec.toNat_append, ← Nat.shiftLeft_add_eq_or_of_lt c.uwLo.isLt, Nat.shiftLeft_eq]

/-- A shadow register that stores what is written AND its mask (R103). -/
theorem ShadowRegister.of_masked {rd : Instr} {wr : Word → Instr} {get : CfgRegs → Word} {put : CfgRegs → Word → CfgRegs}
    {mask : Word} (hrd : ∀ s, exec rd s = readRegister s (get s.shadow))
    (hwr : ∀ w s, exec (wr w) s = writeOutcome (s.writeShadow (put s.shadow (w &&& mask)))) :
    ShadowRegister rd wr get put mask :=
  ⟨hrd, hwr⟩

/-- A shadow register that stores all 32 bits written (R103). -/
theorem ShadowRegister.of_full {rd : Instr} {wr : Word → Instr} {get : CfgRegs → Word} {put : CfgRegs → Word → CfgRegs}
    (hrd : ∀ s, exec rd s = readRegister s (get s.shadow))
    (hwr : ∀ w s, exec (wr w) s = writeOutcome (s.writeShadow (put s.shadow w))) :
    ShadowRegister rd wr get put 0xFFFFFFFF#32 := by
  refine .of_masked hrd fun w => ?_
  have hmask : w &&& 0xFFFFFFFF#32 = w := BitVec.and_allOnes
  rw [hmask]
  exact hwr w

/-- Settles O11: each register's read and write, and each field by where it starts and ends. -/
theorem demodShadowRegisters : Obligations.DemodShadowRegisters := by
  refine ⟨.of_full (fun _ => rfl) fun _ _ => rfl, .of_full (fun _ => rfl) fun _ _ => rfl,
    .of_masked (fun _ => rfl) fun _ _ => rfl, .of_masked (fun _ => rfl) fun _ _ => rfl,
    .of_full (fun _ => rfl) fun _ _ => rfl, .of_full (fun _ => rfl) fun _ _ => rfl,
    .of_masked (fun _ => rfl) fun _ _ => rfl, fun c => ⟨?demodCfg, ?acqCfg, ?statsLow, ?statsHigh, ?uwCfg⟩⟩
  case demodCfg =>
    exact ⟨field_zero _ 8, field_eq _ 8 3, field_eq _ 12 4, field_eq _ 16 4, field_eq _ 20 4, field_top _ rfl, field_zero _ 16⟩
  case acqCfg => exact ⟨c.acqCenter_eq, field_eq _ 16 12, field_top _ rfl⟩
  case statsLow => exact field_zero _ 16
  case statsHigh => exact field_top _ rfl
  case uwCfg => exact ⟨field_zero _ 7, field_eq _ 8 7, field_eq _ 16 8⟩

/-- Settles O12: each register's read and write, each field by where it starts and ends, and R120's quantities by definition. -/
theorem framerAndDecoderShadowRegisters : Obligations.FramerAndDecoderShadowRegisters := by
  refine ⟨.of_full (fun _ => rfl) fun _ _ => rfl, .of_full (fun _ => rfl) fun _ _ => rfl,
    .of_masked (fun _ => rfl) fun _ _ => rfl, .of_full (fun _ => rfl) fun _ _ => rfl,
    .of_masked (fun _ => rfl) fun _ _ => rfl, .of_masked (fun _ => rfl) fun _ _ => rfl,
    fun c => ⟨?framer, ?ldpcNk, ?ldpcAlg, ?hLen, rfl, rfl, rfl, rfl⟩⟩
  case framer => exact ⟨c.uniqueWord_toNat, field_zero _ 16⟩
  case ldpcNk => exact ⟨field_zero _ 16, field_top _ rfl⟩
  case ldpcAlg => exact ⟨field_zero _ 8, field_eq _ 8 4, field_eq _ 16 7⟩
  case hLen => exact field_zero _ 17

/-! ### The counters and the statistics -/

/-- Settles O13: each arm reads its own counter. -/
theorem counterReads : Obligations.CounterReads := by
  unfold Obligations.CounterReads
  and_intros
  all_goals exact fun _ => rfl

/-- SPEC[k] reads SPEC_MEM[k] under a valid snapshot of more than k bins, and 0 otherwise (R491). -/
theorem State.specRead_eq (s : State) (k : Nat) :
    s.specRead k = if s.stats.flags.getLsbD 2 = true ∧ k < s.snapNf then s.specMem.getD k 0 else 0 := by
  simp only [State.specRead, Bool.and_eq_true, decide_eq_true_eq]

/-- Settles O15: each arm reads its own register of the snapshot, the two short ones with zeros above them. -/
theorem statisticsReads : Obligations.StatisticsReads := by
  have htiming : ReadsAs .rdStTiming (fun s => s.stats.timing.setWidth 32) := fun _ => rfl
  have hflags : ReadsAs .rdStFlags (fun s => s.stats.flags.setWidth 32) := fun _ => rfl
  have hspec (k : BitVec 10) : ReadsAs (.rdSpec k) (fun s => s.specRead k.toNat) := fun _ => rfl
  exact ⟨fun _ => rfl, fun _ => rfl, fun _ => rfl, htiming.of_eq fun _ => BitVec.setWidth_eq_append (by decide),
    fun _ => rfl, fun _ => rfl, fun _ => rfl, fun _ => rfl,
    hflags.of_eq fun _ => BitVec.setWidth_eq_append (by decide), fun _ => rfl, fun _ => rfl,
    fun k => (hspec k).of_eq fun s => s.specRead_eq k.toNat⟩

end Sys2Proof.Machine
end

section
/-! SUPPORT. The commands (50_commands.md): what each does where STATE allows it and what a refusal does (R500 to R541), and the
state a reset leaves (R1001). -/

namespace Sys2Proof.Machine

/-! ### A command row, allowed or refused -/

/-- A command that STATE allows performs its rule and answers OKAY (R500, R501). -/
theorem exec_of_commandAllowed {i : Instr} {k : Command} {s : State} {m : Mode}
    (hi : exec i s = commandOutcome (performCommand k s)) (hm : s.mode = m) (h : commandAllowed k m = true) :
    exec i s = .next (commandEffect k s).answerWrite := by
  subst hm
  rcases performCommand_cases s k with ⟨-, hk⟩ | ⟨hno, -⟩
  · rw [hi, hk, commandOutcome]
  · cases h.symm.trans hno

/-- A command that STATE does not allow sets ERR.CMD_STATE, answers OKAY and does nothing else (R500, R501). -/
theorem exec_of_commandRefused {i : Instr} {k : Command} {s : State} {m : Mode}
    (hi : exec i s = commandOutcome (performCommand k s)) (hm : s.mode = m) (h : commandAllowed k m = false) :
    exec i s = .next { s with err := s.err ||| 0x002#9, reply := okWrite } := by
  subst hm
  rcases performCommand_cases s k with ⟨hyes, -⟩ | ⟨-, hk⟩
  · cases h.symm.trans hyes
  · rw [hi, hk]
    rfl

/-- Settles O22: each "no" of R501's table is a row of `commandAllowed`. -/
theorem commandsRefusedByState : Obligations.CommandsRefusedByState := by
  refine fun s => ⟨fun hm => ?_, fun c hm => ?ready, fun c hm => ?run⟩
  case ready => exact exec_of_commandRefused (k := .stop) rfl hm rfl
  case run =>
    exact ⟨exec_of_commandRefused (k := .configure) rfl hm rfl, exec_of_commandRefused (k := .start) rfl hm rfl⟩
  rcases hm with hm | hm
  all_goals
    exact ⟨exec_of_commandRefused (k := .start) rfl hm rfl, exec_of_commandRefused (k := .stop) rfl hm rfl,
      exec_of_commandRefused (k := .resync) rfl hm rfl⟩

/-! ### What a command does where STATE allows it -/

/-- FRAMER_INIT as R151 lists it, with no soft bit collected (log 12). -/
theorem framerInit_eq : framerInit = framerAtInit [] := rfl

/-- START in READY (R520). -/
theorem State.start_of_ready {s : State} {c : CfgRegs} (h : s.mode = .ready c) :
    s.start = { s with mode := .run c, demod := demodAtInit c.os, framer := framerAtInit [] } := by
  rcases s.start_cases with ⟨c', hc', hs⟩ | ⟨hno, -⟩
  · cases hc'.symm.trans h
    rw [hs, demodInit_eq, framerInit_eq]
  · exact absurd h (hno c)

/-- STOP in RUN (R521). -/
theorem State.stop_of_run {s : State} {c : CfgRegs} (h : s.mode = .run c) :
    s.stop = { s with mode := .ready c, sampFifo := [], demod := demodAtInit c.os, framer := framerAtInit [] } := by
  rcases s.stop_cases with ⟨c', hc', hs⟩ | ⟨hno, -⟩
  · cases hc'.symm.trans h
    rw [hs, demodInit_eq, framerInit_eq]
  · exact absurd h (hno c)

/-- Settles O23: where STATE allows a command the row performs its rule; NOP, CLEAR_COUNTERS and FLUSH_PACKETS are allowed in
every STATE. -/
theorem commandsComplete : Obligations.CommandsComplete := by
  refine ⟨fun _ => rfl, fun s c hm => ⟨[], ?start⟩, fun s c hm => ⟨[], ?stop⟩, fun s c hm => ⟨[], ?resync⟩,
    fun _ => rfl, fun _ => rfl⟩
  case start =>
    rw [exec_of_commandAllowed (k := .start) rfl hm rfl, commandEffect, State.start_of_ready hm]
    rfl
  case stop =>
    rw [exec_of_commandAllowed (k := .stop) rfl hm rfl, commandEffect, State.stop_of_run hm]
    rfl
  case resync => rcases hm with hm | hm <;> exact exec_of_commandAllowed (k := .resync) rfl hm rfl

/-! ### CONFIGURE -/

/-- Outside RUN, CONFIGURE performs its rule (R501, R512). -/
theorem exec_configure_of_not_run {s : State} (h : ∀ c, s.mode ≠ .run c) :
    exec .configure s = .next s.configure.answerWrite := by
  cases hm : s.mode with
  | idle | ready | cfgError => exact exec_of_commandAllowed (k := .configure) rfl hm rfl
  | run c => exact absurd hm (h c)

/-- A passing CONFIGURE, field by field (R512). -/
theorem State.configurePass_eq (s : State) :
    s.configurePass = { s with
      mode := .ready s.shadow, sampFifo := [], pktFifo := [], rdWord := 0, irq := { s.irq with cfgDone := true }
      pkw := s.shadow.pktWords, demod := demodAtInit s.shadow.os, framer := framerAtInit [], stats := Stats.zero
      snapNf := 0, cfgErr := 0 } := by
  rw [← demodInit_eq]
  rfl

/-- Settles O25: outside RUN, what CONFIGURE does turns on the code that Validate gives for the shadow. -/
theorem configurePassesOrReports : Obligations.ConfigurePassesOrReports := by
  refine ⟨fun s c hm => exec_of_commandRefused (k := .configure) rfl hm rfl, fun s hrun => ?_⟩
  rw [exec_configure_of_not_run hrun]
  rcases s.configure_cases with ⟨hpass, hs⟩ | ⟨hfail, hs⟩ <;> rw [hs]
  · exact ⟨fun _ => ⟨[], by rw [State.configurePass_eq]; rfl⟩, fun h => absurd hpass h⟩
  · exact ⟨fun h => absurd h hfail, fun _ => rfl⟩

/-! ### The state a reset leaves -/

/-- Every piece of state that R1001 lists is at its reset value in `resetWith`, whatever H_MEM, the answer on the port and the
script are made of. -/
theorem State.resetWith_atReset (p : Params) (hmem : Memory) (powerOns : Nat) (reply : Option Reply) (script : List Turn) :
    State.AtReset
      { State.resetWith p with hmem := hmem, powerOns := powerOns, reply := reply, script := script } where
  mode := rfl
  err := rfl
  cfgErr := rfl
  irq := rfl
  irqEnable := rfl
  shadow := rfl
  hAddr := rfl
  sampFifo := rfl
  pktFifo := rfl
  rdWord := rfl
  pkw := rfl
  counters := rfl
  lastDecode := rfl
  lastUw := rfl
  stats := rfl
  snapNf := rfl
  tone0 := ⟨rfl, rfl, fun _ h => absurd h List.not_mem_nil⟩
  tone1 := ⟨rfl, rfl, fun _ h => absurd h List.not_mem_nil⟩
  estimates := ⟨rfl, rfl, rfl, rfl⟩
  framer := rfl

/-- Settles O24: SOFT_RESET is allowed in every STATE, and gives the reset state with H_MEM and its draw kept. -/
theorem softResetKeepsHMem : Obligations.SoftResetKeepsHMem := fun s =>
  ⟨s.softReset.answerWrite, exec_of_commandAllowed (k := .softReset) rfl rfl rfl,
    State.resetWith_atReset s.par s.hmem s.powerOns okWrite s.script, fun _ => rfl, rfl, rfl, rfl, rfl⟩

end Sys2Proof.Machine
end

section
/-! SUPPORT. The packets of a block step: the room that R601 asks for is enough, and a stream of zeros gives none (R665). -/

namespace Sys2Proof.Machine

/-! ### The room for packets -/

/-- Settles O59: the packets that `engineStep_pushes` counts, in a state that meets the invariant. -/
theorem blockPushesAtMostPmaxPackets : Obligations.BlockPushesAtMostPmaxPackets := by
  intro s c hinv hrun _
  have hactive := Mode.active_of_run hrun
  obtain ⟨hdemod, hframer, -⟩ := hinv.engine c hactive
  obtain ⟨pkts, hpush, -, hmax⟩ := State.engineStep_pushes (hinv.checked_active hactive) hdemod hframer
  rw [hpush, List.length_append]
  exact Nat.add_le_add_left hmax _

/-! ### Places of a list -/

/-- What holds of every entry and of the default holds of every place of a list, past its end too. -/
theorem forall_getD {α : Type} {P : α → Prop} {xs : List α} {d : α} (h : ∀ x ∈ xs, P x) (hd : P d) (n : Nat) :
    P (xs.getD n d) := by
  by_cases hn : n < xs.length
  · rw [List.getD_eq_getElem _ _ hn]
    exact h _ (List.getElem_mem hn)
  · rwa [List.getD_eq_default _ _ (not_lt.mp hn)]

/-! ### The checksum of zeros -/

/-- A bit step of the CRC takes no value but 0 to 0: the polynomial sets bit 0, which the shift leaves clear (R821). -/
theorem crcBit_ne_zero {crc : BitVec 16} (h : crc ≠ 0) : crcBit crc ≠ 0 := by
  intro hz
  unfold crcBit at hz
  split at hz
  · have hbit : ((crc <<< 1) ^^^ 0x1021#16).getLsbD 0 = true := by simp
    rw [hz] at hbit
    cases hbit
  · rename_i hmsb
    have hlow : crc.toNat < 2 ^ 15 := BitVec.toNat_lt_of_msb_false (Bool.not_eq_true _ ▸ hmsb)
    have hshift : crc.toNat <<< 1 % 2 ^ 16 = 0 := by rw [← BitVec.toNat_shiftLeft, hz]; rfl
    exact h (BitVec.eq_of_toNat_eq (by simp only [Nat.shiftLeft_eq] at hshift; simp; omega))

/-- A run of bit steps takes no value but 0 to 0 (R821). -/
theorem crcBits_ne_zero (n : Nat) {crc : BitVec 16} (h : crc ≠ 0) : crcBits n crc ≠ 0 := by
  induction n generalizing crc with
  | zero => exact h
  | succ n ih => exact ih (crcBit_ne_zero h)

/-- Zero bytes take no value of the CRC but 0 to 0 (R821). -/
theorem foldl_crcByte_ne_zero {msg : List Byte} (hmsg : ∀ b ∈ msg, b = 0) {crc : BitVec 16} (h : crc ≠ 0) :
    msg.foldl crcByte crc ≠ 0 := by
  induction msg generalizing crc with
  | nil => exact h
  | cons b msg ih =>
    have hbyte : crcByte crc b = crcBits 8 crc := by
      rw [hmsg b List.mem_cons_self, crcByte]
      exact congrArg _ BitVec.xor_zero
    rw [List.foldl_cons, hbyte]
    exact ih (fun b hb => hmsg b (List.mem_cons_of_mem _ hb)) (crcBits_ne_zero 8 h)

/-- A packet of zeros fails the checksum, whatever its length: the CRC starts from 0xFFFF (R821). -/
theorem crcOk_of_zero {pkt : List Byte} (h : ∀ b ∈ pkt, b = 0) : crcOk pkt = false := by
  have hbyte (n : Nat) : pkt.getD n 0 = 0 := forall_getD h rfl n
  rw [crcOk, hbyte, hbyte]
  exact beq_false_of_ne (foldl_crcByte_ne_zero (fun b hb => h b (List.mem_of_mem_take hb)) (by decide))

/-! ### The decode of zeros -/

/-- Zero bits make a packet of zeros (R820). -/
theorem assemblePacket_zero (p : Nat) {bits : List Bool} (h : ∀ b ∈ bits, b = false) : ∀ b ∈ assemblePacket p bits, b = 0 := by
  intro b hb
  simp only [assemblePacket, getD_false bits h, List.mem_map] at hb
  obtain ⟨-, -, rfl⟩ := hb
  decide

/-- Soft bits that are all 0 decode to zero bits at iteration 0 (R803). -/
theorem ldpcDecode_zero (rows : List (List Nat)) (maxIt scale offset : Nat) {l : List Int} (h : ∀ v ∈ l, v = 0) :
    ldpcDecode rows maxIt scale offset l = { success := true, iters := 0, bits := decisions l } := by
  simp [ldpcDecode, syndromeZero_of_zero rows _ (decisions_zero l h)]

/-- A decode to zero bits pushes nothing (R821, R822). -/
theorem State.decodeGate_pktFifo_of_zero (s : State) (c : CfgRegs) {d : DecodeResult} (h : ∀ b ∈ d.bits, b = false) :
    (s.decodeGate c d).pktFifo = s.pktFifo := by
  have hfail := crcOk_of_zero (assemblePacket_zero c.pktBytes h)
  rcases s.decodeGate_cases c d with ⟨-, heq⟩ | ⟨-, -, heq⟩ | ⟨-, hpass, -⟩
  · rw [heq]
  · rw [heq]
  · cases hfail.symm.trans hpass

/-- The end of a codeword of zeros pushes nothing (R712). -/
theorem State.codewordDone_pktFifo_of_zero {s : State} (c : CfgRegs) (h : ∀ v ∈ s.framer.cwBuf, v = 0) :
    (s.codewordDone c).pktFifo = s.pktFifo := by
  have hcw : ∀ v ∈ s.framer.cwBuf.take c.nCw, v = 0 := fun v hv => h v (List.mem_of_mem_take hv)
  simp only [State.codewordDone, State.decodeCodeword, ldpcDecode_zero _ _ _ _ hcw]
  exact State.decodeGate_pktFifo_of_zero _ c (decisions_zero _ hcw)

/-! ### The framer over zeros -/

/-- A zero soft bit leaves the soft bits collected so far zero (R711). -/
theorem FramerMove.cwBuf_zero {c : CfgRegs} {fr fr' : Framer} {pkts : List (List Byte)} (h : FramerMove c 0 fr pkts fr')
    (hz : ∀ v ∈ fr.cwBuf, v = 0) : ∀ v ∈ fr'.cwBuf, v = 0 := by
  cases h with
  | collect =>
    intro v hv
    rcases List.mem_append.mp hv with hv | hv
    · exact hz v (List.mem_of_mem_take hv)
    · exact List.mem_singleton.mp hv
  | search | gap | gapDone | marker => exact hz
  | toCodeword | codewordDone | loseSync => simp

/-- A zero bit of the codeword pushes nothing where the bits before it are zero (R711, R712). -/
theorem State.codewordBit_pktFifo_of_zero {s : State} (c : CfgRegs) (h : ∀ v ∈ s.framer.cwBuf, v = 0) :
    (s.codewordBit c 0).pktFifo = s.pktFifo := by
  unfold State.codewordBit
  simp only []
  split
  · refine State.codewordDone_pktFifo_of_zero c fun v hv => ?_
    rcases List.mem_append.mp hv with hv | hv
    · exact h v (List.mem_of_mem_take hv)
    · exact List.mem_singleton.mp hv
  · rfl

/-- A bit of the marker pushes nothing (R714 to R717). -/
theorem State.markerBit_pktFifo (s : State) (c : CfgRegs) : (s.markerBit c).pktFifo = s.pktFifo := by
  have hcases := s.markerBit_cases c
  generalize s.framer.distance c = d at hcases
  rcases hcases with ⟨-, h⟩ | ⟨-, -, h⟩ | ⟨-, -, -, h⟩ | ⟨-, -, -, h⟩ <;> rw [h] <;> rfl

/-- A zero soft bit pushes nothing where the bits collected before it are zero (R701). -/
theorem State.framerBit_pktFifo_of_zero {s : State} (c : CfgRegs) (h : ∀ v ∈ s.framer.cwBuf, v = 0) :
    (s.framerBit c 0).pktFifo = s.pktFifo := by
  unfold State.framerBit
  generalize hs1 : { s with framer := s.framer.shiftIn c (hardBit 0) } = s1
  have hpkt : s.pktFifo = s1.pktFifo := hs1 ▸ rfl
  have hbuf : ∀ v ∈ s1.framer.cwBuf, v = 0 := hs1 ▸ h
  rw [hpkt]
  simp only []
  split
  · rcases s1.searchBit_cases c with ⟨-, -, heq⟩ | ⟨-, heq⟩ <;> rw [heq]
  · unfold State.syncBit
    split
    · exact State.codewordBit_pktFifo_of_zero c hbuf
    · rcases s1.gapBit_cases c with ⟨-, heq⟩ | ⟨-, heq⟩ <;> rw [heq]
    · exact s1.markerBit_pktFifo c

/-- A run of zero soft bits keeps the bits collected zero and pushes nothing (R652). -/
theorem State.framerBits_zero {s : State} (c : CfgRegs) {soft : List Int} (hsoft : ∀ v ∈ soft, v = 0)
    (h : ∀ v ∈ s.framer.cwBuf, v = 0) :
    (∀ v ∈ (s.framerBits c soft).framer.cwBuf, v = 0) ∧ (s.framerBits c soft).pktFifo = s.pktFifo := by
  induction soft generalizing s with
  | nil => exact ⟨h, rfl⟩
  | cons v soft ih =>
    obtain rfl : v = 0 := hsoft v List.mem_cons_self
    obtain ⟨pkts, -, hmove⟩ := s.framerBit_move c 0
    obtain ⟨hbuf, hpkt⟩ := ih (fun w hw => hsoft w (List.mem_cons_of_mem _ hw)) (hmove.cwBuf_zero h)
    exact ⟨hbuf, hpkt.trans (State.framerBit_pktFifo_of_zero c h)⟩

/-! ### The demodulator over zeros -/

/-- Where every energy is 0, one entry of it, past the list's ends too (R640). -/
theorem energyAt_of_zero (c : CfgRegs) {a : List Int} (h : ∀ e ∈ a, e = 0) (n : Int) : energyAt c a n = 0 :=
  forall_getD h rfl _

/-- The matched filter of a zero history and a zero block (R640). -/
theorem matchedFilter_zero (c : CfgRegs) {yhist y : List Cplx} (hh : ∀ z ∈ yhist, z = Cplx.zero) (hy : ∀ z ∈ y, z = Cplx.zero) :
    ∀ e ∈ matchedFilter c yhist y, e = 0 := by
  refine boxcar_zero _ _ _ fun z hz => ?_
  rcases List.mem_append.mp (List.mem_of_mem_drop hz) with hz | hz
  · exact hh z hz
  · exact hy z hz

/-- No energy gives soft bits 0 (R645). -/
theorem softBits_of_zero (c : CfgRegs) {a0 a1 : List Int} (h0 : ∀ e ∈ a0, e = 0) (h1 : ∀ e ∈ a1, e = 0) (cs : List Int) :
    ∀ v ∈ softBits c a0 a1 cs, v = 0 := by
  have htotal : totalEnergy c a0 a1 cs = 0 := by
    simp [totalEnergy, energyAt_of_zero c h0, energyAt_of_zero c h1]
  intro v hv
  obtain ⟨i, -, rfl⟩ := List.mem_map.mp hv
  exact if_pos htotal

/-- A branch over a block of zeros ends with a zero history (R632, R646). -/
theorem Branch.finish_mixed_zero (c : CfgRegs) (b b' : Branch) {x : List Cplx} (hx : ∀ z ∈ x, z = Cplx.zero) :
    ∀ z ∈ (b'.finish c (b.mixed x)).yhist, z = Cplx.zero := fun z hz =>
  mixBlock_zero _ _ _ hx z (List.mem_of_mem_drop hz)

/-- A block of zeros over a zero history leaves the history zero and gives soft bits 0 (R665). -/
theorem demodBlock_zero (c : CfgRegs) {d : Demod} {x : List Cplx} (hx : ∀ z ∈ x, z = Cplx.zero)
    (h0 : ∀ z ∈ d.b0.yhist, z = Cplx.zero) (h1 : ∀ z ∈ d.b1.yhist, z = Cplx.zero) :
    (∀ z ∈ (demodBlock c d x).1.b0.yhist, z = Cplx.zero) ∧ (∀ z ∈ (demodBlock c d x).1.b1.yhist, z = Cplx.zero) ∧
      ∀ v ∈ (demodBlock c d x).2.soft, v = 0 :=
  ⟨Branch.finish_mixed_zero c _ _ hx, Branch.finish_mixed_zero c _ _ hx,
    softBits_of_zero c (matchedFilter_zero c h0 (mixBlock_zero _ _ _ hx)) (matchedFilter_zero c h1 (mixBlock_zero _ _ _ hx)) _⟩

/-- Settles O60: zeros make zero soft bits, zero soft bits decode to a packet of zeros, and that packet fails the checksum. -/
theorem allZeroStreamYieldsNoPacket : Obligations.AllZeroStreamYieldsNoPacket := by
  rintro s c ⟨hsamp, h0, h1, hbuf⟩
  obtain ⟨hb0, hb1, hsoft⟩ := demodBlock_zero c (s.nextBlock_zero c hsamp) h0 h1
  obtain ⟨hcw, hpkt⟩ := State.framerBits_zero (s := s.afterDemod c) c hsoft hbuf
  refine ⟨⟨fun x hx => ?_, ?_, ?_, ?_⟩, ?_⟩
  · rw [s.engineStep_frame c] at hx
    exact hsamp x (List.mem_of_mem_drop hx)
  · rw [State.engineStep_demod]
    exact hb0
  · rw [State.engineStep_demod]
    exact hb1
  · rw [State.engineStep_parts, State.endBlock_framer]
    exact hcw
  · rw [State.engineStep_parts, State.endBlock_pktFifo]
    exact hpkt

end Sys2Proof.Machine
end

section
/-! SUPPORT. The sine table and the window: SIN by its quadrants, and the ranges that both stay in (R610 to R612). -/

namespace Sys2Proof.Machine

/-! ### The sine table -/

/-- An entry of QTAB, past its end too, lies in [0, 32767] (R610). -/
theorem qtab_bounds (k : Nat) : 0 ≤ qtab k ∧ qtab k ≤ 32767 := by
  have htable : ∀ q ∈ quarterSine, q ≤ 32767 := by decide +kernel
  unfold qtab
  by_cases hk : k < quarterSine.length
  · rw [List.getD_eq_getElem _ _ hk]
    have := htable _ (List.getElem_mem hk)
    omega
  · rw [List.getD_eq_default _ _ (not_lt.mp hk)]
    omega

/-- SIN of an index lies in [-32767, 32767] (R611). -/
theorem sinIndex_bounds (j : Nat) : -32767 ≤ sinIndex j ∧ sinIndex j ≤ 32767 := by
  unfold sinIndex
  split_ifs
  · have := qtab_bounds j; omega
  · have := qtab_bounds (512 - j); omega
  · have := qtab_bounds (j - 512); omega
  · have := qtab_bounds (1024 - j); omega

/-- SIN lies in [-32767, 32767] (R611). -/
theorem sine_bounds (i : Int) : -32767 ≤ sine i ∧ sine i ≤ 32767 := sinIndex_bounds _

/-- COS lies in [-32767, 32767] (R611). -/
theorem cosine_bounds (i : Int) : -32767 ≤ cosine i ∧ cosine i ≤ 32767 := sine_bounds _

/-- SIN has period 1024 (R611). -/
theorem sine_add_period (i : Int) : sine (i + 1024) = sine i := by
  rw [sine, Int.add_emod_right, ← sine]

/-- SIN in the first quadrant, its ends included (R611). -/
theorem sinIndex_quadrant0 {k : Nat} (h : k ≤ 256) : sinIndex k = qtab k := if_pos h

/-- SIN in the second quadrant, its ends included (R611). -/
theorem sinIndex_quadrant1 {k : Nat} (h : k ≤ 256) : sinIndex (256 + k) = qtab (256 - k) := by
  unfold sinIndex
  split_ifs
  · rw [show 256 + k = 256 - k by omega]
  · rw [show 512 - (256 + k) = 256 - k by omega]
  all_goals omega

/-- SIN in the third quadrant, its ends included (R611). -/
theorem sinIndex_quadrant2 {k : Nat} (h : k ≤ 256) : sinIndex (512 + k) = -qtab k := by
  unfold sinIndex
  split_ifs
  · omega
  · rw [show k = 0 by omega]
    decide
  · rw [show 512 + k - 512 = k by omega]
  · omega

/-- SIN in the fourth quadrant, its ends included (R611). -/
theorem sinIndex_quadrant3 {k : Nat} (h : k ≤ 256) : sinIndex (768 + k) = -qtab (256 - k) := by
  unfold sinIndex
  split_ifs
  · omega
  · omega
  · rw [show 768 + k - 512 = 256 - k by omega]
  · rw [show 1024 - (768 + k) = 256 - k by omega]

/-- An index of a turn as a quadrant and a place in it (R611). -/
theorem exists_quadrant {j : Nat} (h : j < 1024) : ∃ k < 256, j = k ∨ j = 256 + k ∨ j = 512 + k ∨ j = 768 + k :=
  ⟨j % 256, Nat.mod_lt _ (by decide), by omega⟩

/-- Backwards through the turn, SIN has the other sign (R611). -/
theorem sinIndex_sub {j : Nat} (h : j < 1024) : sinIndex (1024 - j) = -sinIndex j := by
  obtain ⟨k, hk, rfl | rfl | rfl | rfl⟩ := exists_quadrant h
  · rw [show 1024 - j = 768 + (256 - j) by omega, sinIndex_quadrant3 (by omega), sinIndex_quadrant0 hk.le,
      Nat.sub_sub_self hk.le]
  · rw [show 1024 - (256 + k) = 512 + (256 - k) by omega, sinIndex_quadrant2 (by omega), sinIndex_quadrant1 hk.le]
  · rw [show 1024 - (512 + k) = 256 + (256 - k) by omega, sinIndex_quadrant1 (by omega), sinIndex_quadrant2 hk.le,
      Nat.sub_sub_self hk.le, neg_neg]
  · rw [show 1024 - (768 + k) = 256 - k by omega, sinIndex_quadrant0 (by omega), sinIndex_quadrant3 hk.le, neg_neg]

/-- SIN is odd (R611). -/
theorem sine_neg (i : Int) : sine (-i) = -sine i := by
  unfold sine
  by_cases h0 : (i % 1024).toNat = 0
  · have hneg : (-i % 1024).toNat = 0 := by omega
    rw [h0, hneg]
    rfl
  · have hneg : (-i % 1024).toNat = 1024 - (i % 1024).toNat := by omega
    rw [hneg, sinIndex_sub (by omega)]

/-- COS² + SIN² is at most 2^30: the rounded table is no longer than the circle of radius 32768 (R610, R611). -/
theorem cosine_sq_add_sine_sq_le (i : Int) : cosine i ^ 2 + sine i ^ 2 ≤ 32768 ^ 2 := by
  have htable : ∀ k < 256, qtab k ^ 2 + qtab (256 - k) ^ 2 ≤ 32768 ^ 2 := by decide +kernel
  obtain ⟨k, hk, hquadrant⟩ := exists_quadrant (j := (i % 1024).toNat) (by omega)
  have hle := htable k hk
  rw [cosine, sine, sine]
  rcases hquadrant with h | h | h | h
  · have hcos : ((i + 256) % 1024).toNat = 256 + k := by omega
    rw [h, hcos, sinIndex_quadrant0 hk.le, sinIndex_quadrant1 hk.le]
    omega
  · have hcos : ((i + 256) % 1024).toNat = 512 + k := by omega
    rw [h, hcos, sinIndex_quadrant1 hk.le, sinIndex_quadrant2 hk.le, neg_sq]
    omega
  · have hcos : ((i + 256) % 1024).toNat = 768 + k := by omega
    rw [h, hcos, sinIndex_quadrant2 hk.le, sinIndex_quadrant3 hk.le, neg_sq, neg_sq]
    omega
  · have hcos : ((i + 256) % 1024).toNat = k := by omega
    rw [h, hcos, sinIndex_quadrant3 hk.le, sinIndex_quadrant0 hk.le, neg_sq]
    omega

/-! ### The window -/

/-- The window lies in [0, 32767] (R612). -/
theorem window_bounds (nf n : Nat) : 0 ≤ window nf n ∧ window nf n ≤ 32767 := by
  have := cosine_bounds ((n * (1024 / nf) : Nat) : Int)
  simp only [window, asr]
  omega

/-- The window starts at 0 (R612). -/
theorem window_zero (nf : Nat) : window nf 0 = 0 := by
  rw [window, Nat.zero_mul]
  decide

/-- The window's middle, half a turn on, is its greatest value (R612). -/
theorem window_half {l : Nat} (h : 1 ≤ l) (h' : l ≤ 10) : window (2 ^ l) (2 ^ l / 2) = 32767 := by
  have hhalf : 2 ^ l / 2 * (1024 / 2 ^ l) = 512 := by interval_cases l <;> rfl
  rw [window, hhalf]
  decide

/-- Settles O35: the table's rows as they stand, the quadrants by definition, the ranges from those of the table. -/
theorem sineAndWindowRanges : Obligations.SineAndWindowRanges :=
  ⟨by decide +kernel,
    fun i => ⟨rfl, sine_add_period i, sine_neg i, rfl, sine_bounds i⟩,
    fun l n hl hl' _ => ⟨rfl, (window_bounds _ n).1, (window_bounds _ n).2, window_zero _, window_half (by omega) hl'⟩⟩

end Sys2Proof.Machine
end

section
/-! SUPPORT. The FFT entry by entry and the bin powers: a modulus grows by a rounding error a stage (R613 to R615). -/

namespace Sys2Proof.Machine

/-! ### The FFT's input -/

/-- Entry `n` of the windowed block (R613). -/
theorem windowed_getElem? (nf : Nat) (x : List Cplx) (n : Nat) :
    (windowed nf x)[n]? =
      (x[x.length - nf + n]?).map fun u => ⟨asr (u.re * window nf n) 15, asr (u.im * window nf n) 15⟩ := by
  simp only [windowed, List.getElem?_map, List.getElem?_zipIdx, List.getElem?_drop, Option.map_map, Nat.zero_add]
  rfl

/-- The windowed block has Nf entries where the block has as many (R613). -/
theorem windowed_length {nf : Nat} {x : List Cplx} (h : nf ≤ x.length) : (windowed nf x).length = nf := by
  simp only [windowed, List.length_map, List.length_zipIdx, List.length_drop]
  omega

/-- Bit `i` of the reversal of L bits is bit `L - 1 - i` (R614). -/
theorem bitrev_testBit {l i : Nat} (h : i < l) (j : Nat) : (bitrev l j).testBit i = j.testBit (l - 1 - i) := by
  induction l generalizing j with
  | zero => omega
  | succ l ih =>
    rw [bitrev, mul_comm, Nat.testBit_two_pow_mul_add _ (bitrev_lt l (j / 2))]
    split
    · rename_i hi
      rw [ih hi, Nat.testBit_div_two]
      congr 1
      omega
    · obtain rfl : i = l := by omega
      simp

/-! ### The stages -/

/-- The FFT's array before its first stage: the input in bit-reversed order (R614). -/
def fftInput (l : Nat) (xw : List Cplx) : List Cplx := (List.range (2 ^ l)).map fun j => xw.getD (bitrev l j) Cplx.zero

/-- Entry `j` of the FFT's array after stage `t` (R614). -/
def fftArray (l : Nat) (xw : List Cplx) (t j : Nat) : Cplx := (fftStages (2 ^ l) (fftInput l xw) t).getD j Cplx.zero

/-- The array starts from the input in bit-reversed order (R614). -/
theorem fftArray_zero {l j : Nat} (h : j < 2 ^ l) (xw : List Cplx) : fftArray l xw 0 j = xw.getD (bitrev l j) Cplx.zero := by
  simp [fftArray, fftStages, fftInput, List.getD, h]

/-- The FFT is the array after its last stage (R614). -/
theorem fft_eq_map_fftArray (l : Nat) (xw : List Cplx) : fft l xw = (List.range (2 ^ l)).map (fftArray l xw l) := by
  refine List.ext_getElem (by simp) fun j hj _ => ?_
  rw [List.getElem_map, List.getElem_range]
  exact (List.getD_eq_getElem _ _ hj).symm

/-- One stage of the array (R614). -/
theorem fftArray_succ {l i : Nat} (h : i < 2 ^ l) (xw : List Cplx) (t : Nat) :
    fftArray l xw (t + 1) i = fftEntry (t + 1) (fftStages (2 ^ l) (fftInput l xw) t) i := by
  simp [fftArray, fftStages, fftStage, List.getD, h]

/-- The lower entry of a butterfly: the half sum (R614). -/
theorem fftEntry_lower {t g j : Nat} (hg : 2 ^ (t + 1) ∣ g) (hj : j < 2 ^ t) (a : List Cplx) :
    fftEntry (t + 1) a (g + j) =
      let u := a.getD (g + j) Cplx.zero
      let v := twiddle (a.getD (g + j + 2 ^ t) Cplx.zero) (j * (1024 / 2 ^ (t + 1)))
      ⟨asr (u.re + v.re) 1, asr (u.im + v.im) 1⟩ := by
  obtain ⟨m, rfl⟩ := hg
  have hspan : j < 2 ^ (t + 1) := by rw [pow_succ]; omega
  have hj_half : (2 ^ (t + 1) * m + j) % 2 ^ t = j := by
    rw [pow_succ, mul_assoc, Nat.mul_add_mod, Nat.mod_eq_of_lt hj]
  have hj_span : (2 ^ (t + 1) * m + j) % 2 ^ (t + 1) = j := by rw [Nat.mul_add_mod, Nat.mod_eq_of_lt hspan]
  have hbase : (2 ^ (t + 1) * m + j) / 2 ^ (t + 1) * 2 ^ (t + 1) = 2 ^ (t + 1) * m := by
    rw [Nat.mul_add_div (Nat.two_pow_pos _), Nat.div_eq_of_lt hspan, add_zero, mul_comm]
  simp only [fftEntry, Nat.add_sub_cancel, hj_half, hj_span, hbase, if_pos hj]

/-- The upper entry of a butterfly: the half difference (R614). -/
theorem fftEntry_upper {t g j : Nat} (hg : 2 ^ (t + 1) ∣ g) (hj : j < 2 ^ t) (a : List Cplx) :
    fftEntry (t + 1) a (g + j + 2 ^ t) =
      let u := a.getD (g + j) Cplx.zero
      let v := twiddle (a.getD (g + j + 2 ^ t) Cplx.zero) (j * (1024 / 2 ^ (t + 1)))
      ⟨asr (u.re - v.re) 1, asr (u.im - v.im) 1⟩ := by
  obtain ⟨m, rfl⟩ := hg
  have hspan : j + 2 ^ t < 2 ^ (t + 1) := by rw [pow_succ]; omega
  have hj_half : (2 ^ (t + 1) * m + j + 2 ^ t) % 2 ^ t = j := by
    rw [Nat.add_mod_right, pow_succ, mul_assoc, Nat.mul_add_mod, Nat.mod_eq_of_lt hj]
  have hj_span : (2 ^ (t + 1) * m + j + 2 ^ t) % 2 ^ (t + 1) = j + 2 ^ t := by
    rw [add_assoc, Nat.mul_add_mod, Nat.mod_eq_of_lt hspan]
  have hbase : (2 ^ (t + 1) * m + j + 2 ^ t) / 2 ^ (t + 1) * 2 ^ (t + 1) = 2 ^ (t + 1) * m := by
    rw [add_assoc, Nat.mul_add_div (Nat.two_pow_pos _), Nat.div_eq_of_lt hspan, add_zero, mul_comm]
  have hupper : ¬ j + 2 ^ t < 2 ^ t := by omega
  simp only [fftEntry, Nat.add_sub_cancel, hj_half, hj_span, hbase, if_neg hupper]

/-- The pair that stage `t` makes of each butterfly (R614). -/
theorem fftArray_butterfly (l : Nat) (xw : List Cplx) {t g j : Nat} (ht : t + 1 ≤ l) (hg : 2 ^ (t + 1) ∣ g) (hl : g < 2 ^ l)
    (hj : j < 2 ^ t) :
    let u := fftArray l xw t (g + j)
    let v := twiddle (fftArray l xw t (g + j + 2 ^ t)) (j * (1024 / 2 ^ (t + 1)))
    fftArray l xw (t + 1) (g + j) = ⟨asr (u.re + v.re) 1, asr (u.im + v.im) 1⟩ ∧
      fftArray l xw (t + 1) (g + j + 2 ^ t) = ⟨asr (u.re - v.re) 1, asr (u.im - v.im) 1⟩ := by
  have hgroup : g + 2 ^ (t + 1) ≤ 2 ^ l := by
    obtain ⟨m, rfl⟩ := hg
    obtain ⟨k, hk⟩ := Nat.pow_dvd_pow 2 ht
    rw [hk] at hl ⊢
    have hmk : m + 1 ≤ k := Nat.lt_of_mul_lt_mul_left hl
    calc 2 ^ (t + 1) * m + 2 ^ (t + 1) = 2 ^ (t + 1) * (m + 1) := by ring
      _ ≤ 2 ^ (t + 1) * k := Nat.mul_le_mul_left _ hmk
  have hspan : 2 ^ (t + 1) = 2 ^ t + 2 ^ t := by ring
  exact ⟨(fftArray_succ (by omega) xw t).trans (fftEntry_lower hg hj _),
    (fftArray_succ (by omega) xw t).trans (fftEntry_upper hg hj _)⟩

/-! ### Moduli -/

/-- The modulus of `z` is at most `m` (R14). -/
def ModulusLe (m : Nat) (z : Cplx) : Prop := z.re ^ 2 + z.im ^ 2 ≤ (m : Int) ^ 2

/-- The modulus of a difference is at most the sum of the moduli, by Cauchy and Schwarz. -/
theorem ModulusLe.sub {m n : Nat} {z w : Cplx} (hz : ModulusLe m z) (hw : ModulusLe n w) :
    ModulusLe (m + n) ⟨z.re - w.re, z.im - w.im⟩ := by
  unfold ModulusLe at *
  have hprod : (z.re * w.re + z.im * w.im) ^ 2 ≤ ((m : Int) * n) ^ 2 :=
    calc (z.re * w.re + z.im * w.im) ^ 2
        ≤ (z.re * w.re + z.im * w.im) ^ 2 + (z.re * w.im - z.im * w.re) ^ 2 := le_add_of_nonneg_right (sq_nonneg _)
      _ = (z.re ^ 2 + z.im ^ 2) * (w.re ^ 2 + w.im ^ 2) := by ring
      _ ≤ (m : Int) ^ 2 * (n : Int) ^ 2 := mul_le_mul hz hw (by positivity) (by positivity)
      _ = ((m : Int) * n) ^ 2 := by ring
  have hinner := neg_le_of_abs_le (abs_le_of_sq_le_sq hprod (by positivity))
  push_cast
  nlinarith

/-- The modulus of a sum is at most the sum of the moduli. -/
theorem ModulusLe.add {m n : Nat} {z w : Cplx} (hz : ModulusLe m z) (hw : ModulusLe n w) :
    ModulusLe (m + n) ⟨z.re + w.re, z.im + w.im⟩ := by
  have hneg : ModulusLe n ⟨-w.re, -w.im⟩ := by simpa only [ModulusLe, neg_sq] using hw
  simpa only [sub_neg_eq_add] using hz.sub hneg

/-- A shift right makes the modulus at most 2 longer than the exact quotient (R12). -/
theorem modulusLe_asr {m s : Nat} {z : Cplx} (hz : ModulusLe (2 ^ s * m) z) :
    ModulusLe (m + 2) ⟨asr z.re s, asr z.im s⟩ := by
  have hd : (0 : Int) < 2 ^ s := by positivity
  have hrest : ModulusLe (2 ^ s * 2) ⟨z.re % 2 ^ s, z.im % 2 ^ s⟩ := by
    have hre := Int.emod_lt_of_pos z.re hd
    have him := Int.emod_lt_of_pos z.im hd
    have hre0 := Int.emod_nonneg z.re hd.ne'
    have him0 := Int.emod_nonneg z.im hd.ne'
    unfold ModulusLe
    push_cast
    nlinarith
  have hscaled := hz.sub hrest
  have hre : z.re - z.re % 2 ^ s = 2 ^ s * asr z.re s := by rw [asr, Int.emod_def]; ring
  have him : z.im - z.im % 2 ^ s = 2 ^ s * asr z.im s := by rw [asr, Int.emod_def]; ring
  unfold ModulusLe at hscaled ⊢
  simp only [hre, him] at hscaled
  push_cast at hscaled ⊢
  have hsquare : (0 : Int) < (2 ^ s) ^ 2 := by positivity
  refine le_of_mul_le_mul_left ?_ hsquare
  linarith

/-- Zero is within every modulus. -/
theorem modulusLe_zero (m : Nat) : ModulusLe m Cplx.zero := by
  simp only [ModulusLe, Cplx.zero]
  positivity

/-- The twiddle factor does not lengthen a value by more than the rounding (R614). -/
theorem modulusLe_twiddle {m : Nat} {b : Cplx} (hb : ModulusLe m b) (tw : Nat) : ModulusLe (m + 2) (twiddle b tw) := by
  have hfactor := cosine_sq_add_sine_sq_le (tw : Int)
  refine modulusLe_asr (s := 15)
    (z := ⟨b.re * cosine tw + b.im * sine tw, b.im * cosine tw - b.re * sine tw⟩) ?_
  calc (b.re * cosine tw + b.im * sine tw) ^ 2 + (b.im * cosine tw - b.re * sine tw) ^ 2
      = (cosine tw ^ 2 + sine tw ^ 2) * (b.re ^ 2 + b.im ^ 2) := by ring
    _ ≤ 32768 ^ 2 * (m : Int) ^ 2 := mul_le_mul hfactor hb (by positivity) (by positivity)
    _ = ((2 ^ 15 * m : Nat) : Int) ^ 2 := by push_cast; ring

/-- An entry of a stage is at most 3 longer than the longest entry before it (R614). -/
theorem fftEntry_modulusLe {m : Nat} {a : List Cplx} (h : ∀ z ∈ a, ModulusLe m z) (t i : Nat) :
    ModulusLe (m + 3) (fftEntry t a i) := by
  have hentry (n : Nat) : ModulusLe m (a.getD n Cplx.zero) := forall_getD h (modulusLe_zero m) n
  have hdouble : m + (m + 2) = 2 ^ 1 * (m + 1) := by omega
  unfold fftEntry
  simp only []
  split
  · exact modulusLe_asr (hdouble ▸ (hentry _).add (modulusLe_twiddle (hentry _) _))
  · exact modulusLe_asr (hdouble ▸ (hentry _).sub (modulusLe_twiddle (hentry _) _))

/-- After `t` stages an entry is at most 3·t longer than the longest entry of the input (R614). -/
theorem fftStages_modulusLe (nf : Nat) {m : Nat} {a : List Cplx} (h : ∀ z ∈ a, ModulusLe m z) (t : Nat) :
    ∀ z ∈ fftStages nf a t, ModulusLe (m + 3 * t) z := by
  induction t with
  | zero => exact h
  | succ t ih =>
    intro z hz
    obtain ⟨i, -, rfl⟩ := List.mem_map.mp hz
    exact fftEntry_modulusLe ih _ _

/-- A 16-bit component times the window is a 16-bit component (R613). -/
theorem asr_mul_window_bounds (nf n : Nat) {v : Int} (h : -32768 ≤ v) (h' : v ≤ 32767) :
    -32767 ≤ asr (v * window nf n) 15 ∧ asr (v * window nf n) 15 ≤ 32767 := by
  obtain ⟨hw, hw'⟩ := window_bounds nf n
  have hlow : -32768 * 32767 ≤ v * window nf n := by nlinarith
  have hhigh : v * window nf n ≤ 32767 * 32767 := by nlinarith
  unfold asr
  omega

/-- The windowed entries of 16-bit samples are no longer than the diagonal √2·32767, rounded up (R613). -/
theorem windowed_modulusLe (nf : Nat) {x : List Cplx}
    (h : ∀ z ∈ x, -32768 ≤ z.re ∧ z.re ≤ 32767 ∧ -32768 ≤ z.im ∧ z.im ≤ 32767) :
    ∀ z ∈ windowed nf x, ModulusLe 46341 z := by
  intro z hz
  obtain ⟨⟨u, n⟩, hun, rfl⟩ := List.mem_map.mp hz
  obtain ⟨hre, hre', him, him'⟩ := h u (List.mem_of_mem_drop (List.fst_mem_of_mem_zipIdx hun))
  obtain ⟨hlow, hhigh⟩ := asr_mul_window_bounds nf n hre hre'
  obtain ⟨hlow', hhigh'⟩ := asr_mul_window_bounds nf n him him'
  unfold ModulusLe
  norm_num
  nlinarith

/-- The FFT of 16-bit samples, entry by entry (R614). -/
theorem fft_windowed_modulusLe (l nf : Nat) {x : List Cplx}
    (h : ∀ z ∈ x, -32768 ≤ z.re ∧ z.re ≤ 32767 ∧ -32768 ≤ z.im ∧ z.im ≤ 32767) :
    ∀ z ∈ fft l (windowed nf x), ModulusLe (46341 + 3 * l) z := by
  refine fftStages_modulusLe _ (fun z hz => ?_) l
  obtain ⟨j, -, rfl⟩ := List.mem_map.mp hz
  exact forall_getD (windowed_modulusLe nf h) (modulusLe_zero _) _

/-- The bin powers of 16-bit samples fit 32 bits (R615). -/
theorem binPowers_bounds {c : CfgRegs} (hl : c.log2Nf ≤ 10) {x : List Cplx}
    (h : ∀ z ∈ x, -32768 ≤ z.re ∧ z.re ≤ 32767 ∧ -32768 ≤ z.im ∧ z.im ≤ 32767) :
    ∀ p ∈ binPowers c x, 0 ≤ p ∧ p < 2 ^ 32 := by
  intro p hp
  obtain ⟨z, hz, rfl⟩ := List.mem_map.mp hp
  refine ⟨normSq_nonneg z, ?_⟩
  calc normSq z = z.re ^ 2 + z.im ^ 2 := by rw [normSq, sq, sq]
    _ ≤ ((46341 + 3 * c.log2Nf : Nat) : Int) ^ 2 := fft_windowed_modulusLe _ _ h z hz
    _ ≤ 46371 ^ 2 := by gcongr; omega
    _ < 2 ^ 32 := by norm_num

/-- Settles O36: the input, the bit reversal and the butterflies by their own lemmas; the moduli bound the powers. -/
theorem binPowersFitSpecMem : Obligations.BinPowersFitSpecMem := by
  refine ⟨fun nf x hnf => ⟨windowed_length hnf, fun n hn => ?_⟩, fun l j i hi => bitrev_testBit hi j,
    fun l xw => ⟨fftArray l xw, fft_eq_map_fftArray l xw, fun j hj => ⟨bitrev_lt l j, fftArray_zero hj xw⟩, ?_⟩,
    fun _ _ => rfl, fun c x _ hl hx => ⟨binPowers_length c x, binPowers_bounds hl hx⟩⟩
  · have hplace : x.length - nf + n < x.length := by omega
    rw [windowed_getElem?, List.getElem?_eq_getElem hplace, List.getD_eq_getElem _ _ hplace]
    rfl
  · intro t g j ht htl hg hl hj
    obtain ⟨t, rfl⟩ : ∃ k, t = k + 1 := ⟨t - 1, by omega⟩
    exact fftArray_butterfly l xw htl hg hl hj

end Sys2Proof.Machine
end

section
/-! SUPPORT. The tone search, the frequency estimates and the mixer (R620 to R632). -/

namespace Sys2Proof.Machine

/-! ### The tone search -/

/-- The window, as one list of its bins (R620). -/
theorem acqBins_eq (c : CfgRegs) :
    acqBins c = (List.range (2 * c.acqHalf + 1)).map fun n : Nat => c.acqCenter - c.acqHalf + (n : Int) := by
  simp only [acqBins, bind_pure_comp, List.map_eq_map, List.map_map]
  rfl

/-- The bins of the window (R620). -/
theorem mem_acqBins {c : CfgRegs} {kb : Int} :
    kb ∈ acqBins c ↔ c.acqCenter - c.acqHalf ≤ kb ∧ kb ≤ c.acqCenter + c.acqHalf := by
  simp only [acqBins_eq, List.mem_map, List.mem_range]
  constructor
  · rintro ⟨n, hn, rfl⟩
    omega
  · intro h
    exact ⟨(kb - (c.acqCenter - c.acqHalf)).toNat, by omega, by omega⟩

/-- The bins of the window come in increasing order (R620). -/
theorem acqBins_pairwise (c : CfgRegs) : (acqBins c).Pairwise (· < ·) := by
  rw [acqBins_eq]
  exact List.pairwise_map.mpr (List.pairwise_lt_range.imp fun h => by omega)

/-- The first of the strongest bins of a list in increasing order: it is in the list, no bin is stronger, and none before it is as
strong (R621, R622). -/
theorem firstMax_signedPower (c : CfgRegs) (p : List Int) {bins : List Int} (hne : bins ≠ []) (hs : bins.Pairwise (· < ·)) :
    firstMax (signedPower c p) 0 bins ∈ bins ∧
      ∀ kb ∈ bins, signedPower c p kb ≤ signedPower c p (firstMax (signedPower c p) 0 bins) ∧
        (kb < firstMax (signedPower c p) 0 bins →
          signedPower c p kb < signedPower c p (firstMax (signedPower c p) 0 bins)) :=
  ⟨firstMax_mem _ _ _ hne, fun _ hkb => ⟨le_firstMax _ _ _ hkb, lt_firstMax_of_lt _ _ _ hs hkb⟩⟩

/-- A bin beyond the guard of `k` lies more than G to its right or to its left (R622). -/
theorem outsideGuard_iff {c : CfgRegs} {k kb : Int} :
    outsideGuard c k kb = true ↔ kb - k > c.toneGuard ∨ k - kb > c.toneGuard := by
  simp only [outsideGuard, decide_eq_true_eq, lt_abs]
  omega

/-- The bins of the window beyond the guard of `k` (R622). -/
theorem mem_farBins {c : CfgRegs} {k kb : Int} :
    kb ∈ (acqBins c).filter (outsideGuard c k) ↔
      (c.acqCenter - c.acqHalf ≤ kb ∧ kb ≤ c.acqCenter + c.acqHalf) ∧ (kb - k > c.toneGuard ∨ k - kb > c.toneGuard) := by
  rw [List.mem_filter, mem_acqBins, outsideGuard_iff]

/-- The noise bins (R623). -/
theorem mem_noiseBins {c : CfgRegs} {k1 k2 kb : Int} :
    kb ∈ noiseBins c k1 k2 ↔
      (c.acqCenter - c.acqHalf ≤ kb ∧ kb ≤ c.acqCenter + c.acqHalf) ∧
        (kb - k1 > c.toneGuard ∨ k1 - kb > c.toneGuard) ∧ (kb - k2 > c.toneGuard ∨ k2 - kb > c.toneGuard) := by
  rw [noiseBins, List.mem_filter, Bool.and_eq_true, mem_acqBins, outsideGuard_iff, outsideGuard_iff]

/-- Two guards of 2G + 1 bins each do not cover a window of 2W + 1 ≥ 4G + 3 bins (R623, R906 check 8). -/
theorem noiseBins_ne_nil {c : CfgRegs} (h : 2 * c.toneGuard + 1 ≤ c.acqHalf) (k1 k2 : Int) : noiseBins c k1 k2 ≠ [] := by
  intro hnil
  have hcover : Finset.Icc (c.acqCenter - c.acqHalf) (c.acqCenter + c.acqHalf) ⊆
      Finset.Icc (k1 - c.toneGuard) (k1 + c.toneGuard) ∪ Finset.Icc (k2 - c.toneGuard) (k2 + c.toneGuard) := by
    intro kb hkb
    have hnot : kb ∉ noiseBins c k1 k2 := hnil ▸ List.not_mem_nil
    rw [mem_noiseBins] at hnot
    simp only [Finset.mem_union, Finset.mem_Icc] at hkb ⊢
    omega
  have hcard := (Finset.card_le_card hcover).trans (Finset.card_union_le _ _)
  simp only [Int.card_Icc] at hcard
  omega

/-- Settles O37: both tones are first maxima of lists in increasing order, and the guards leave noise bins. -/
theorem toneSearchFindsFirstMaxima : Obligations.ToneSearchFindsFirstMaxima := by
  intro c p hguard
  have hnoise := noiseBins_ne_nil hguard
  have hbins : acqBins c ≠ [] := fun h => hnoise 0 0 (by rw [noiseBins, h]; rfl)
  have hfar (k : Int) : (acqBins c).filter (outsideGuard c k) ≠ [] := by
    obtain ⟨kb, hkb⟩ := List.exists_mem_of_ne_nil _ (hnoise k k)
    obtain ⟨hin, hout, -⟩ := mem_noiseBins.mp hkb
    exact List.ne_nil_of_mem (mem_farBins.mpr ⟨hin, hout⟩)
  obtain ⟨hk1, hmax1⟩ := firstMax_signedPower c p hbins (acqBins_pairwise c)
  obtain ⟨hk2, hmax2⟩ := firstMax_signedPower c p (hfar (strongestBin c p)) ((acqBins_pairwise c).filter _)
  obtain ⟨hk2in, hk2far⟩ := mem_farBins.mp hk2
  exact ⟨fun kb => by simp [signedPower, CfgRegs.nf], ⟨fun _ => mem_acqBins, acqBins_pairwise c⟩,
    ⟨mem_acqBins.mp hk1, fun kb hkb => hmax1 kb (mem_acqBins.mpr hkb)⟩,
    ⟨hk2in, hk2far, fun kb hin hout => hmax2 kb (mem_farBins.mpr ⟨hin, hout⟩)⟩,
    ⟨fun _ => mem_noiseBins, ((acqBins_pairwise c).filter _).imp ne_of_lt⟩,
    rfl, rfl, List.length_pos_of_ne_nil (hnoise _ _), rfl, rfl, decide_eq_true_iff⟩

/-! ### The frequency estimates -/

/-- A step of asr(g - f, s) from f stays between f and g (R631). -/
theorem add_asr_sub_between (f g : Int) (s : Nat) : min f g ≤ f + asr (g - f) s ∧ f + asr (g - f) s ≤ max f g := by
  have hpos : (1 : Int) ≤ 2 ^ s := one_le_pow₀ (by decide)
  rcases le_total f g with h | h
  · have hlow : 0 ≤ asr (g - f) s := (asr_zero s).symm.trans_le (asr_mono (by omega) s)
    have hhigh : asr (g - f) s ≤ g - f := Int.ediv_le_self _ (by omega)
    omega
  · have hlow : g - f ≤ asr (g - f) s := (Int.le_ediv_iff_mul_le (by omega)).mpr (by nlinarith)
    have hhigh : asr (g - f) s ≤ 0 := (asr_mono (by omega) s).trans_eq (asr_zero s)
    omega

/-- Where the step lands, as the mean of the estimate and the measurement with weights 2^s - 1 and 1, rounded down (R631). -/
theorem add_asr_sub_eq (f g : Int) (s : Nat) : f + asr (g - f) s = asr (f * (2 ^ s - 1) + g) s := by
  have hmean : f * (2 ^ s - 1) + g = g - f + f * 2 ^ s := by ring
  rw [asr, asr, hmean, Int.add_mul_ediv_right _ _ (by positivity), add_comm]

/-- Where the step lands rises with the estimate and with the measurement (R631). -/
theorem add_asr_sub_mono {f f' g g' : Int} (hf : f ≤ f') (hg : g ≤ g') (s : Nat) :
    f + asr (g - f) s ≤ f' + asr (g' - f') s := by
  have hpos : (1 : Int) ≤ 2 ^ s := one_le_pow₀ (by decide)
  have hweight : f * (2 ^ s - 1) ≤ f' * (2 ^ s - 1) := mul_le_mul_of_nonneg_right hf (by omega)
  rw [add_asr_sub_eq, add_asr_sub_eq]
  exact asr_mono (add_le_add hweight hg) s

/-- The first measurement is taken outright (R631). -/
theorem smooth_first (c : CfgRegs) (f : Word) {g : Int} (h : -(2 ^ 31) ≤ g) (h' : g < 2 ^ 31) :
    (smooth c false f g).toInt = g :=
  BitVec.toInt_ofInt_eq_self (by decide) h h'

/-- A later measurement moves the estimate, within 32 bits (R150, R631). -/
theorem smooth_later (c : CfgRegs) (f : Word) {g : Int} (h : -(2 ^ 31) ≤ g) (h' : g < 2 ^ 31) :
    (smooth c true f g).toInt = f.toInt + asr (g - f.toInt) c.smoothShift := by
  obtain ⟨hlow, hhigh⟩ := add_asr_sub_between f.toInt g c.smoothShift
  have hf := f.le_toInt
  have hf' := f.toInt_lt
  exact BitVec.toInt_ofInt_eq_self (by decide) (by omega) (by omega)

/-- Settles O38: the update is the exact one, and that one lies between the two and is monotone in both. -/
theorem smoothingMovesTowardMeasurement : Obligations.SmoothingMovesTowardMeasurement := by
  intro c f g hlow hhigh
  obtain ⟨hmin, hmax⟩ := add_asr_sub_between f.toInt g c.smoothShift
  have hlater := smooth_later c f hlow hhigh
  refine ⟨smooth_first c f hlow hhigh, hlater, hlater ▸ hmin, hlater ▸ hmax, fun v f' g' hhigh' hf hg => ?_⟩
  have hlow' := hlow.trans hg
  cases v with
  | false => rwa [smooth_first c f hlow hhigh, smooth_first c f' hlow' hhigh']
  | true =>
    rw [hlater, smooth_later c f' hlow' hhigh']
    exact add_asr_sub_mono hf hg _

/-! ### The mixer -/

/-- A sample mixed at phase phi, with the phase index as a number (R632). -/
theorem mixSample_eq (phi : Word) (z : Cplx) :
    mixSample phi z =
      let idx : Int := ((phi.toNat / 2 ^ 22 : Nat) : Int)
      ⟨(z.re * cosine idx + z.im * sine idx) / 2 ^ 15, (z.im * cosine idx - z.re * sine idx) / 2 ^ 15⟩ := by
  rw [mixSample, BitVec.toNat_ushiftRight, Nat.shiftRight_eq_div_pow]
  rfl

/-- The phase one sample further on (R632). -/
theorem phaseAfter_succ (f phi : Word) (n : Nat) : phaseAfter f (phi + f) n = phaseAfter f phi (n + 1) := by
  unfold phaseAfter
  rw [BitVec.ofNat_add, add_mul, BitVec.one_mul]
  ring

/-- Sample `n` of a mixed block is mixed at the phase after `n` samples (R632). -/
theorem mixBlock_getElem? (f phi : Word) (x : List Cplx) (n : Nat) :
    (mixBlock f phi x)[n]? = x[n]?.map (mixSample (phaseAfter f phi n)) := by
  induction x generalizing phi n with
  | nil => rfl
  | cons z x ih =>
    cases n with
    | zero => simp [mixBlock, phaseAfter]
    | succ n =>
      rw [mixBlock, List.getElem?_cons_succ, List.getElem?_cons_succ, ih, phaseAfter_succ]

/-- Two blocks mix as one: the second starts at the phase after the first (R632). -/
theorem mixBlock_append (f phi : Word) (x y : List Cplx) :
    mixBlock f phi (x ++ y) = mixBlock f phi x ++ mixBlock f (phaseAfter f phi x.length) y := by
  induction x generalizing phi with
  | nil => simp [mixBlock, phaseAfter]
  | cons z x ih => rw [List.cons_append, mixBlock, mixBlock, ih, phaseAfter_succ, List.length_cons, List.cons_append]

/-- Settles O39: sample by sample, and block after block. -/
theorem mixerPhaseIsContinuous : Obligations.MixerPhaseIsContinuous :=
  ⟨mixSample_eq, fun f phi x => ⟨fun _ => rfl, mixBlock_length f phi x,
    fun n h => by rw [mixBlock_getElem?, List.getElem?_eq_getElem h]; rfl, mixBlock_append f phi x⟩⟩

end Sys2Proof.Machine
end

section
/-! SUPPORT. The matched filter, the timing phase, the symbol instants and the soft bits (R640 to R645). -/

namespace Sys2Proof.Machine

/-! ### The matched filter -/

/-- The real part of a sum (R14). -/
theorem csum_re (zs : List Cplx) : (csum zs).re = (zs.map Cplx.re).sum := by
  induction zs with
  | nil => rfl
  | cons z zs ih => rw [List.map_cons, List.sum_cons, ← ih]; rfl

/-- The imaginary part of a sum (R14). -/
theorem csum_im (zs : List Cplx) : (csum zs).im = (zs.map Cplx.im).sum := by
  induction zs with
  | nil => rfl
  | cons z zs ih => rw [List.map_cons, List.sum_cons, ← ih]; rfl

/-- A run of `n` entries from place `a` on, the last one first. -/
theorem reverse_take_drop {α : Type} (xs : List α) (d : α) {a n : Nat} (h : a + n ≤ xs.length) :
    ((xs.drop a).take n).reverse = (List.range n).map fun j => xs.getD (a + n - 1 - j) d := by
  refine List.ext_getElem (by simp; omega) fun j hj hj' => ?_
  have hlen : ((xs.drop a).take n).length = n := by simp; omega
  have hjn : j < n := by simpa using hj'
  have hplace : a + (n - 1 - j) = a + n - 1 - j := by omega
  have hin : a + n - 1 - j < xs.length := by omega
  simp only [List.getElem_reverse, hlen, List.getElem_take, List.getElem_drop, hplace, List.getElem_map, List.getElem_range,
    List.getD_eq_getElem _ _ hin]

/-- The energy of a run of entries is that of the run backwards, part by part (R14). -/
theorem normSq_csum_take_drop (zs : List Cplx) {a n : Nat} (h : a + n ≤ zs.length) :
    normSq (csum ((zs.drop a).take n)) =
      (((List.range n).map fun j => (zs.getD (a + n - 1 - j) Cplx.zero).re).sum) ^ 2 +
        (((List.range n).map fun j => (zs.getD (a + n - 1 - j) Cplx.zero).im).sum) ^ 2 := by
  have hsum (part : Cplx → Int) : (((zs.drop a).take n).map part).sum =
      ((List.range n).map fun j => part (zs.getD (a + n - 1 - j) Cplx.zero)).sum := by
    rw [← List.sum_reverse, ← List.map_reverse, reverse_take_drop zs Cplx.zero h, List.map_map]
    rfl
  rw [normSq, csum_re, csum_im, hsum, hsum, sq, sq]

/-- A[n] of a history and a block, as the energy of OS entries of the two in one list (R640). -/
theorem energyAt_matchedFilter {c : CfgRegs} (yhist y : List Cplx) {n : Int} (h : -(c.os : Int) ≤ n) (h' : n < c.blockLen) :
    energyAt c (matchedFilter c yhist y) n =
      normSq (csum (((yhist ++ y).drop ((n + c.os).toNat + 1)).take c.os)) := by
  have hplace : (n + c.os).toNat < c.blockLen + c.os := by omega
  rw [energyAt, matchedFilter, List.getD, boxcar_getElem? _ _ _ _ hplace, List.drop_drop, add_comm 1]
  rfl

/-- Sample `m` of a history and a block, as an entry of the two in one list (R640). -/
theorem getD_history_append {os : Nat} {yhist : List Cplx} (h : yhist.length = 2 * os) (y : List Cplx) {m : Int}
    (hm : -(2 * os : Int) ≤ m) :
    (yhist ++ y).getD (m + 2 * os).toNat Cplx.zero =
      if 0 ≤ m then y.getD m.toNat Cplx.zero else yhist.getD (m + 2 * os).toNat Cplx.zero := by
  split
  · rw [List.getD_append_right _ _ _ _ (by omega), show (m + 2 * os).toNat - yhist.length = m.toNat by omega]
  · rw [List.getD_append _ _ _ _ (by omega)]

/-- Settles O40: the sum of `boxcar` at n's place, read from its last entry back to its first. -/
theorem matchedFilterIntegratesOneSymbol : Obligations.MatchedFilterIntegratesOneSymbol := by
  intro c yhist y hhist hy ym n hlow hhigh
  have hentry : ∀ j ∈ List.range c.os,
      (yhist ++ y).getD ((n + c.os).toNat + 1 + c.os - 1 - j) Cplx.zero = ym (n - j) := by
    intro j hj
    have hj := List.mem_range.mp hj
    rw [show (n + c.os).toNat + 1 + c.os - 1 - j = (n - j + 2 * c.os).toNat by omega]
    exact getD_history_append hhist y (by omega)
  have hroom : (n + c.os).toNat + 1 + c.os ≤ (yhist ++ y).length := by
    rw [List.length_append, hhist, hy]
    omega
  rw [energyAt_matchedFilter yhist y hlow hhigh, normSq_csum_take_drop _ hroom]
  simp only [bind_pure_comp, List.map_eq_map, List.map_map]
  congr 3
  · exact List.map_congr_left fun j hj => congrArg Cplx.re (hentry j hj)
  · exact List.map_congr_left fun j hj => congrArg Cplx.im (hentry j hj)

/-! ### The timing phase -/

/-- The places of a block congruent to the phase `p` are p, p + OS, … (R641). -/
theorem filter_range_mul (k : Nat) {os p : Nat} (h : p < os) :
    (List.range (k * os)).filter (fun n => n % os == p) = (List.range k).map fun m => p + m * os := by
  refine List.Pairwise.eq_of_mem_iff (r := (· < ·)) (List.pairwise_lt_range.filter _) ?_ fun n => ?_
  · refine List.pairwise_map.mpr (List.pairwise_lt_range.imp fun hlt => ?_)
    exact Nat.add_lt_add_left (Nat.mul_lt_mul_of_pos_right hlt (by omega)) _
  · simp only [List.mem_filter, List.mem_range, beq_iff_eq, List.mem_map]
    constructor
    · rintro ⟨hn, hmod⟩
      exact ⟨n / os, Nat.div_lt_of_lt_mul (by rwa [mul_comm]), by rw [← hmod, mul_comm, Nat.mod_add_div]⟩
    · rintro ⟨m, hm, rfl⟩
      refine ⟨?_, by rw [Nat.add_mul_mod_self_right, Nat.mod_eq_of_lt h]⟩
      calc p + m * os < (m + 1) * os := by rw [add_mul]; omega
        _ ≤ k * os := Nat.mul_le_mul_right _ hm

/-- E[p] is the energy of the block's instants congruent to p (R641). -/
theorem phaseEnergy_eq {c : CfgRegs} (a0 a1 : List Int) {p : Nat} (h : p < c.os) :
    phaseEnergy c a0 a1 p =
      (((List.range (c.symbols * c.os)).filter fun n => n % c.os == p).map fun n : Nat =>
        energyAt c a0 (n : Int) + energyAt c a1 (n : Int)).sum := by
  rw [filter_range_mul _ h, List.map_map]
  rfl

/-- Settles O41: p* is the first maximum over the phases in increasing order. -/
theorem timingPhaseIsFirstMaximum : Obligations.TimingPhaseIsFirstMaximum := by
  intro c a0 a1 hos energy
  have henergy {p : Nat} (hp : p < c.os) : energy p = phaseEnergy c a0 a1 p := by
    simp only [energy, bind_pure_comp, List.map_eq_map, List.map_map]
    exact (phaseEnergy_eq a0 a1 hp).symm
  have hphase := timingPhase_lt hos a0 a1
  refine ⟨hphase, fun p hp => ?_⟩
  have hmem : p ∈ List.range c.os := List.mem_range.mpr hp
  rw [henergy hp, henergy hphase]
  exact ⟨le_firstMax _ 0 _ hmem, lt_firstMax_of_lt _ 0 _ List.pairwise_lt_range hmem⟩

/-! ### The symbol instants -/

/-- The instants, one by one: p + k·OS for k from `k0` on, the first place past LAST + OS/2, below NSYM (R642). -/
theorem symbolInstants_eq_map {c : CfgRegs} {last : Int} {p : Nat} (hp : p < c.os) {k0 : Int}
    (hbelow : (p : Int) + c.os * (k0 - 1) < last + ((c.os / 2 : Nat) : Int) + 1)
    (hfrom : last + ((c.os / 2 : Nat) : Int) + 1 ≤ p + c.os * k0) :
    symbolInstants c last p = (List.range (c.symbols - k0).toNat).map fun m : Nat => (p : Int) + c.os * (k0 + m) := by
  have hos : (0 : Int) < c.os := by omega
  have hN : (c.blockLen : Int) = c.os * c.symbols := by simp [CfgRegs.blockLen, mul_comm]
  refine List.Pairwise.eq_of_mem_iff (r := (· < ·)) (symbolInstants_pairwise c last p) ?_ fun i => ?_
  · refine List.pairwise_map.mpr (List.pairwise_lt_range.imp fun hlt => ?_)
    have := mul_lt_mul_of_pos_left (show k0 + _ < k0 + _ by exact_mod_cast Int.add_lt_add_left (Int.ofNat_lt.mpr hlt) k0) hos
    omega
  · simp only [mem_symbolInstants, List.mem_map, List.mem_range]
    constructor
    · rintro ⟨hlow, hhigh, k, hk⟩
      have hk0 : k0 - 1 < k := lt_of_mul_lt_mul_left (by omega) hos.le
      have hk1 : k < c.symbols := lt_of_mul_lt_mul_left (by omega) hos.le
      refine ⟨(k - k0).toNat, by omega, ?_⟩
      rw [show k0 + ((k - k0).toNat : Int) = k by omega]
      omega
    · rintro ⟨m, hm, rfl⟩
      have hlow : (c.os : Int) * k0 ≤ c.os * (k0 + m) := Int.mul_le_mul_of_nonneg_left (by omega) hos.le
      have hhigh : (c.os : Int) * (k0 + m) ≤ c.os * (c.symbols - 1) := Int.mul_le_mul_of_nonneg_left (by omega) hos.le
      rw [mul_sub, mul_one] at hhigh
      exact ⟨by omega, by omega, k0 + m, by omega⟩

/-- How many instants a block emits (R643). -/
theorem symbolInstants_length {c : CfgRegs} {last : Int} {p : Nat} (hp : p < c.os) {k0 : Int}
    (hbelow : (p : Int) + c.os * (k0 - 1) < last + ((c.os / 2 : Nat) : Int) + 1)
    (hfrom : last + ((c.os / 2 : Nat) : Int) + 1 ≤ p + c.os * k0) :
    (symbolInstants c last p).length = (c.symbols - k0).toNat := by
  rw [symbolInstants_eq_map hp hbelow hfrom, List.length_map, List.length_range]

/-- The last instant of a block is N - OS + p (R643). -/
theorem symbolInstants_getLast? {c : CfgRegs} {last : Int} {p : Nat} (hp : p < c.os) {k0 : Int} (hk : k0 < c.symbols)
    (hbelow : (p : Int) + c.os * (k0 - 1) < last + ((c.os / 2 : Nat) : Int) + 1)
    (hfrom : last + ((c.os / 2 : Nat) : Int) + 1 ≤ p + c.os * k0) :
    (symbolInstants c last p).getLast? = some (c.blockLen - c.os + p : Int) := by
  have hcount : (c.symbols - k0).toNat = (c.symbols - k0 - 1).toNat + 1 := by omega
  have hplace : k0 + ((c.symbols - k0 - 1).toNat : Int) = c.symbols - 1 := by omega
  rw [symbolInstants_eq_map hp hbelow hfrom, hcount, List.range_succ, List.map_append, List.map_singleton, List.getLast?_concat,
    hplace, CfgRegs.blockLen]
  congr 1
  push_cast
  ring

/-- LAST after a block with an instant (R642). -/
theorem lastAfter_of_getLast? (c : CfgRegs) (last : Int) {cs : List Int} {i : Int} (h : cs.getLast? = some i) :
    lastAfter c last cs = i - c.blockLen := by
  rw [lastAfter, h]

/-- Where a block's instants start: at p - OS, at p, or at p + OS (R643). -/
theorem exists_firstPlace {os p : Nat} {lo : Int} (hlow : -(os : Int) ≤ lo) (hhigh : lo ≤ os) (hp : p < os) :
    ∃ k0 : Int, -1 ≤ k0 ∧ k0 ≤ 1 ∧ (p : Int) + os * (k0 - 1) < lo ∧ lo ≤ p + os * k0 := by
  rcases lt_or_ge (p : Int) lo with h | h
  · exact ⟨1, by omega, by omega, by omega, by omega⟩
  · rcases lt_or_ge ((p : Int) - os) lo with h' | h'
    · exact ⟨0, by omega, by omega, by omega, by omega⟩
    · exact ⟨-1, by omega, by omega, by omega, by omega⟩

/-- Settles O42: the instants are an arithmetic progression that starts at p - OS, p or p + OS and ends at N - OS + p. -/
theorem emissionBounds : Obligations.EmissionBounds := by
  intro c last p heven hos hsym hp hlast hlast' n cs
  obtain ⟨k0, hk, hk', hbelow, hfrom⟩ :=
    exists_firstPlace (lo := last + ((c.os / 2 : Nat) : Int) + 1) (by omega) (by omega) hp
  have hlen : cs.length = (c.symbols - k0).toNat := symbolInstants_length hp hbelow hfrom
  have hend := symbolInstants_getLast? hp (by omega) hbelow hfrom
  have hafter : lastAfter c last cs = n - c.os + p - n := lastAfter_of_getLast? c last hend
  have hmem (i : Int) : i ∈ cs ↔ last + (c.os : Int) / 2 < i ∧ i < n ∧ (c.os : Int) ∣ i - p := by
    rw [mem_symbolInstants]
    exact and_congr (by omega) Iff.rfl
  refine ⟨hmem, symbolInstants_pairwise c last p, by omega, by omega, fun i hi => ?_, ⟨_, hend, hafter⟩, by omega, by omega,
    fun hinit => ?_⟩
  · obtain ⟨hlow, hhigh, -⟩ := (hmem i).mp hi
    omega
  · have hfirst : cs.length = (c.symbols - (0 : Int)).toNat := symbolInstants_length hp (by omega) (by omega)
    omega

/-! ### The soft bits -/

/-- Soft bit `j` (R645). -/
theorem softBit_eq (gain nout : Nat) (e0 e1 t : Int) :
    softBit gain nout e0 e1 t =
      if t = 0 then 0 else max (-127) (min 127 (Int.tdiv ((gain : Int) * (e0 - e1) * (nout : Int)) t)) := by
  rw [softBit, clamp_eq_max_min _ _ _ (by decide)]
  rfl

/-- Settles O43: the list is the map of `softBit` over the instants. -/
theorem softBitsAreNormalizedAndBounded : Obligations.SoftBitsAreNormalizedAndBounded := by
  refine fun c a0 a1 cs => ⟨softBits_length c a0 a1 cs, fun j hj => ?_, fun v hv => ?_⟩
  · rw [softBits, List.getElem?_map, List.getElem?_eq_getElem hj, Option.map_some, softBit_eq]
    rfl
  · obtain ⟨i, -, rfl⟩ := List.mem_map.mp hv
    exact softBit_bounds _ _ _ _ _

end Sys2Proof.Machine
end

section
/-! SUPPORT. When the engine steps, and the end of a block (R601, R660 to R662). -/

namespace Sys2Proof.Machine

/-- The engine is enabled in RUN, with a block of samples and room for Pmax packets (R601). -/
theorem State.engineEnabled_iff (s : State) :
    s.engineEnabled = true ↔ ∃ c, s.mode = .run c ∧ c.blockLen ≤ s.sampCount ∧ c.pMax ≤ s.pktFree := by
  unfold State.engineEnabled
  cases s.mode <;> simp

/-- An enabled engine's turn is a block step (R601). -/
theorem State.engineTurn_of_enabled {s : State} {c : CfgRegs} (hm : s.mode = .run c) (h : s.engineEnabled = true) :
    s.engineTurn = s.engineStep c := by
  simp only [State.engineTurn, hm, h, if_true]

/-- A disabled engine's turn does nothing (R601). -/
theorem State.engineTurn_of_disabled {s : State} (h : s.engineEnabled = false) : s.engineTurn = s := by
  unfold State.engineTurn
  split <;> simp [h]

/-- Settles O33: the condition of R601, and the turn on either side of it. -/
theorem engineStepsExactlyWhenEnabled : Obligations.EngineStepsExactlyWhenEnabled := fun s =>
  ⟨s.engineEnabled_iff, State.engineTurn_of_disabled, fun _ => State.engineTurn_of_enabled⟩

/-- When a snapshot is due (R661). -/
theorem snapshotDue_iff {c : CfgRegs} {bss : Word} :
    snapshotDue c bss = true ↔ c.statsDiv ≠ 0 ∧ bss.toNat % c.statsDiv = 0 := by
  simp [snapshotDue]

/-- Settles O44: with no snapshot due the block is counted, and with one due the counted state takes it. -/
theorem blockEndCountsAndSnapshots : Obligations.BlockEndCountsAndSnapshots := by
  intro s c o
  have hcases := s.endBlock_cases c o
  rw [← Bool.not_eq_true, snapshotDue_iff] at hcases
  rcases hcases with ⟨hdue, h⟩ | ⟨hnot, h⟩
  · exact ⟨fun hno => absurd hdue hno, fun _ => h.trans rfl⟩
  · exact ⟨fun _ => h, fun hdue => absurd hdue hnot⟩

end Sys2Proof.Machine
end

section
/-! SUPPORT. The framer's outcomes one by one: the window and its distance (R701, R702), acquisition (R710), the codeword (R711,
R712), the gap and the marker (R713 to R717). -/

namespace Sys2Proof.Machine

/-! ### The window -/

/-- The window after a bit, as a number: the shift loses nothing above LUW (R701). -/
theorem Framer.shiftIn_win_toNat {c : CfgRegs} (hluw : c.luw ≤ 64) (fr : Framer) (h : Bool) :
    (fr.shiftIn c h).win.toNat = (2 * fr.win.toNat + h.toNat) % 2 ^ c.luw := by
  have hpow : 2 ^ c.luw ≤ 2 ^ 64 := Nat.pow_le_pow_right (by decide) hluw
  have hmod : (2 * fr.win.toNat + h.toNat) % 2 ^ c.luw < 2 ^ c.luw := Nat.mod_lt _ (Nat.two_pow_pos _)
  exact BitVec.toNat_ofNat _ _ |>.trans (Nat.mod_eq_of_lt (hmod.trans_le hpow))

/-- A hard decision as a number (R651). -/
theorem toNat_hardBit (v : Int) : (hardBit v).toNat = if v < 0 then 1 else 0 := by
  by_cases h : v < 0 <;> simp [hardBit, h]

/-- No move of the framer touches the window or FILL (R710 to R717). -/
theorem FramerMove.win_fill {c : CfgRegs} {v : Int} {fr fr' : Framer} {pkts : List (List Byte)}
    (h : FramerMove c v fr pkts fr') : fr'.win = fr.win ∧ fr'.fill = fr.fill := by
  cases h <;> exact ⟨rfl, rfl⟩

/-- Settles O45: whatever move follows the window update, it leaves WIN and FILL alone. -/
theorem windowShiftsInEveryBit : Obligations.WindowShiftsInEveryBit := by
  refine ⟨fun c fr h _ => by cases h <;> rfl, fun s c v hluw => ?_⟩
  obtain ⟨pkts, -, hmove⟩ := s.framerBit_move c v
  obtain ⟨hwin, hfill⟩ := hmove.win_fill
  exact ⟨by rw [hwin, Framer.shiftIn_win_toNat hluw, toNat_hardBit], hfill⟩

/-! ### The distance -/

/-- `popcount` counts the places of its bits (R12). -/
theorem popcount_eq_length {w : Nat} (v : BitVec w) (n : Nat) :
    popcount v n = ((List.range n).filter fun k => v.getLsbD k).length := by
  induction n with
  | zero => rfl
  | succ n ih =>
    rw [popcount, ih, List.range_succ, List.filter_append, List.length_append, Nat.add_comm]
    cases hbit : v.getLsbD n <;> simp [hbit]

/-- A vector below 2^k has at most k bits (R12). -/
theorem popcount_le {w : Nat} {v : BitVec w} {k : Nat} (h : v.toNat < 2 ^ k) (n : Nat) : popcount v n ≤ k := by
  suffices popcount v n ≤ min n k by omega
  induction n with
  | zero => exact Nat.zero_le _
  | succ n ih =>
    have hbit : (v.getLsbD n).toNat ≤ 1 := Bool.toNat_le _
    rw [popcount]
    rcases lt_or_ge n k with hn | hn
    · omega
    · have hhigh : v.getLsbD n = false :=
        Nat.testBit_lt_two_pow (h.trans_le (Nat.pow_le_pow_right (by decide) hn))
      rw [hhigh, Bool.toNat_false]
      omega

/-- The low `n` bits of a vector, by a remainder and by a mask (R702). -/
theorem ofNat_mod_two_pow {w : Nat} (v : BitVec w) (n : Nat) :
    BitVec.ofNat w (v.toNat % 2 ^ n) = v &&& BitVec.ofNat w (2 ^ n - 1) := by
  rw [← Nat.and_two_pow_sub_one_eq_mod, BitVec.ofNat_and, BitVec.ofNat_toNat, BitVec.setWidth_eq]

/-- The distance of the unique word with some of its bits flipped is the number of the flips (R702). -/
theorem Framer.distance_of_flips {c : CfgRegs} {fr : Framer} {flips : BitVec 64}
    (h : fr.win = (c.uniqueWord &&& BitVec.ofNat 64 (2 ^ c.luw - 1)) ^^^ flips) : fr.distance c = popcount flips 64 := by
  rw [Framer.distance, ofNat_mod_two_pow, h, BitVec.xor_comm, ← BitVec.xor_assoc, BitVec.xor_self, BitVec.zero_xor]

/-- Settles O46: the distance is the popcount of the flips, none of which lies past LUW. -/
theorem distanceCountsFlippedBits : Obligations.DistanceCountsFlippedBits := by
  intro c fr flips _ hflips hwin
  rw [Framer.distance_of_flips hwin]
  exact ⟨popcount_eq_length flips 64, popcount_le hflips 64⟩

/-! ### A bit in each state and phase -/

section
variable {s : State} (c : CfgRegs) (v : Int)

/-- A bit in Searching: the window update, then SearchBit (R701). -/
theorem State.framerBit_of_searching (hs : s.framer.fstate = .searching) :
    s.framerBit c v = State.searchBit { s with framer := s.framer.shiftIn c (hardBit v) } c := by
  simp only [State.framerBit, Framer.shiftIn, hs]

/-- A bit of the codeword: the window update, then its collection (R701, R711). -/
theorem State.framerBit_of_cw (hs : s.framer.fstate = .synchronized) (hp : s.framer.phase = .cw) :
    s.framerBit c v = State.codewordBit { s with framer := s.framer.shiftIn c (hardBit v) } c v := by
  simp only [State.framerBit, State.syncBit, Framer.shiftIn, hs, hp]

/-- A bit of the gap: the window update, then its skip (R701, R713). -/
theorem State.framerBit_of_gap (hs : s.framer.fstate = .synchronized) (hp : s.framer.phase = .gap) :
    s.framerBit c v = State.gapBit { s with framer := s.framer.shiftIn c (hardBit v) } c := by
  simp only [State.framerBit, State.syncBit, Framer.shiftIn, hs, hp]

/-- A bit of the marker: the window update, then the check (R701, R714). -/
theorem State.framerBit_of_uw (hs : s.framer.fstate = .synchronized) (hp : s.framer.phase = .uw) :
    s.framerBit c v = State.markerBit { s with framer := s.framer.shiftIn c (hardBit v) } c := by
  simp only [State.framerBit, State.syncBit, Framer.shiftIn, hs, hp]

end

/-! ### Acquisition -/

/-- Settles O47: the two cases of SearchBit after the window update. -/
theorem searchingAcquiresWithinTolerance : Obligations.SearchingAcquiresWithinTolerance := by
  intro s c v hs fr
  rw [State.framerBit_of_searching c v hs]
  rcases State.searchBit_cases { s with framer := fr } c with ⟨hfull, htol, h⟩ | ⟨hnot, h⟩
  · exact ⟨fun _ => ⟨[], h⟩, fun hno => absurd ⟨hfull, htol⟩ hno⟩
  · exact ⟨fun hyes => absurd hyes hnot, fun _ => h⟩

/-! ### The codeword -/

/-- What a bit of the codeword can do (R711). -/
theorem State.codewordBit_cases (s : State) (c : CfgRegs) (v : Int) :
    (s.framer.cnt + 1 = c.nCw ∧ s.codewordBit c v = State.codewordDone { s with framer := s.framer.collect v } c) ∨
      (s.framer.cnt + 1 ≠ c.nCw ∧ s.codewordBit c v = { s with framer := s.framer.collect v }) := by
  by_cases hn : s.framer.cnt + 1 = c.nCw
  · exact .inl ⟨hn, if_pos hn⟩
  · exact .inr ⟨hn, if_neg hn⟩

/-- A CW_BUF that holds the CNT bits collected takes the next one at its end (R711). -/
theorem Framer.collect_of_length {fr : Framer} (h : fr.cwBuf.length = fr.cnt) (v : Int) :
    fr.collect v = { fr with cwBuf := fr.cwBuf ++ [v], cnt := fr.cnt + 1 } := by
  rw [Framer.collect, List.take_of_length_le h.le]

/-- The gate passes the framer through, whatever it is (R822). -/
theorem State.decodeGate_setFramer (s : State) (fr : Framer) (c : CfgRegs) (d : DecodeResult) :
    State.decodeGate { s with framer := fr } c d = { s.decodeGate c d with framer := fr } := by
  rcases s.decodeGate_cases c d with ⟨hs, h⟩ | ⟨hs, hc, h⟩ | ⟨hs, hc, h⟩ <;> rw [h]
  · simp [State.decodeGate, hs]
  · simp [State.decodeGate, hs, hc]
  · simp [State.decodeGate, hs, hc, State.pushPacket]

/-- The end of a codeword: CW_BUF goes to the decoder, and the framer goes on to the gap or the marker (R712). -/
theorem State.codewordDone_setFramer (s : State) (fr : Framer) (c : CfgRegs) :
    State.codewordDone { s with framer := fr } c =
      { State.decodeCodeword { s with cnt := { s.cnt with frames := s.cnt.frames + 1 } } c (fr.cwBuf.take c.nCw) with
        framer := { fr with phase := if 0 < c.gapBits then .gap else .uw, cnt := 0, cwBuf := [] } } := by
  have hgate := State.decodeGate_setFramer { s with cnt := { s.cnt with frames := s.cnt.frames + 1 } } fr c
    (ldpcDecode (graphRows (s.hEntries c.hCount)) c.maxIt c.scale c.offset (fr.cwBuf.take c.nCw))
  exact congrArg (fun u : State => { u with
    framer := { u.framer with phase := if 0 < c.gapBits then .gap else .uw, cnt := 0, cwBuf := [] } }) hgate

/-- Settles O48: a bit before the last is appended to CW_BUF; the last one completes the N_CW bits that are decoded. -/
theorem codewordIsCollectedThenDecoded : Obligations.CodewordIsCollectedThenDecoded := by
  intro s c v hs hp hlen fr cw
  have hcollect : fr.collect v = { fr with cwBuf := cw, cnt := s.framer.cnt + 1 } :=
    Framer.collect_of_length (fr := fr) hlen v
  rw [State.framerBit_of_cw c v hs hp]
  rcases State.codewordBit_cases { s with framer := fr } c v with ⟨hn, h⟩ | ⟨hn, h⟩ <;> rw [hcollect] at h
  · have hall : cw.take c.nCw = cw := List.take_of_length_le (by
      rw [List.length_append, List.length_singleton, hlen]
      exact hn.le)
    have hdone := h.trans (State.codewordDone_setFramer s { fr with cwBuf := cw, cnt := s.framer.cnt + 1 } c)
    rw [hall] at hdone
    exact ⟨fun hno => absurd hn hno, fun _ => ⟨[], hdone⟩, fun u l => rfl⟩
  · exact ⟨fun _ => h, fun hyes => absurd hyes hn, fun u l => rfl⟩

/-! ### The gap and the marker -/

/-- A Synchronized framer turned to the next codeword stays Synchronized (R715, R717). -/
theorem State.toCodeword_of_synchronized {s : State} (h : s.framer.fstate = .synchronized) (miss : Nat) :
    s.toCodeword miss = { s with framer := { s.framer with phase := .cw, cnt := 0, miss := miss, cwBuf := [] } } := by
  rw [State.toCodeword, ← h]

/-- What a Synchronized framer's bit of the marker makes of the state, written out (R714 to R717). -/
theorem State.markerBit_of_synchronized {s : State} (c : CfgRegs) (hs : s.framer.fstate = .synchronized) :
    let d := s.framer.distance c
    let seen : LastUw := { dist := BitVec.ofNat 7 d, valid := true }
    let next (m : Nat) : Framer := { s.framer with phase := .cw, cnt := 0, miss := m, cwBuf := [] }
    (s.framer.cnt + 1 ≠ c.luw ∧ s.markerBit c = { s with framer := { s.framer with cnt := s.framer.cnt + 1 } }) ∨
    (s.framer.cnt + 1 = c.luw ∧ d ≤ c.uwTol ∧ s.markerBit c = { s with framer := next 0, lastUw := seen }) ∨
    (s.framer.cnt + 1 = c.luw ∧ c.uwTol < d ∧ s.framer.miss + 1 < c.lossThresh ∧
      s.markerBit c =
        { s with
          framer := next (s.framer.miss + 1), lastUw := seen, cnt := { s.cnt with uwMiss := s.cnt.uwMiss + 1 } }) ∨
    (s.framer.cnt + 1 = c.luw ∧ c.uwTol < d ∧ c.lossThresh ≤ s.framer.miss + 1 ∧
      s.markerBit c =
        { s with
          framer := { next 0 with fstate := .searching }
          lastUw := seen
          cnt := { s.cnt with uwMiss := s.cnt.uwMiss + 1, syncLoss := s.cnt.syncLoss + 1 }
          irq := { s.irq with syncChg := true } }) := by
  have hcases := s.markerBit_cases c
  generalize s.framer.distance c = d at hcases ⊢
  rcases hcases with h | ⟨hn, hd, h⟩ | ⟨hn, hd, hm, h⟩ | h
  · exact .inl h
  · exact .inr (.inl ⟨hn, hd, h.trans (State.toCodeword_of_synchronized (by exact hs) 0)⟩)
  · exact .inr (.inr (.inl ⟨hn, hd, hm, h.trans (State.toCodeword_of_synchronized (by exact hs) _)⟩))
  · exact .inr (.inr (.inr h))

/-- Settles O49: the two cases of the gap and the four of the marker, after the window update. -/
theorem gapAndMarkerAreTracked : Obligations.GapAndMarkerAreTracked := by
  intro s c v hs fr d seen next
  refine ⟨fun hp => ?_, fun hp => ?_⟩
  · rw [State.framerBit_of_gap c v hs hp]
    rcases State.gapBit_cases { s with framer := fr } c with ⟨hn, h⟩ | ⟨hn, h⟩
    · exact ⟨fun _ => h, fun hno => absurd hn hno⟩
    · exact ⟨fun hyes => absurd hyes hn, fun _ => h⟩
  · rw [State.framerBit_of_uw c v hs hp]
    rcases State.markerBit_of_synchronized (s := { s with framer := fr }) c hs with
      ⟨hn, h⟩ | ⟨hn, hd, h⟩ | ⟨hn, hd, hm, h⟩ | ⟨hn, hd, hm, h⟩
    · have before {p : Prop} (hlast : s.framer.cnt + 1 = c.luw) : p := absurd hlast hn
      exact ⟨fun _ => h, before, before, before⟩
    · exact ⟨absurd hn, fun _ _ => ⟨[], h⟩, fun _ hmiss => absurd hd hmiss.not_ge, fun _ hmiss => absurd hd hmiss.not_ge⟩
    · exact ⟨absurd hn, fun _ hmatch => absurd hmatch hd.not_ge, fun _ _ _ => ⟨[], h⟩,
        fun _ _ hloss => absurd hloss hm.not_ge⟩
    · exact ⟨absurd hn, fun _ hmatch => absurd hmatch hd.not_ge, fun _ _ hkeep => absurd hm hkeep.not_ge,
        fun _ _ _ => ⟨[], h⟩⟩

end Sys2Proof.Machine
end

section
/-! SUPPORT. The decoder: the check and the variable update, edge by edge (R804, R805), and where the flooding loop stops (R803,
R806, R807). -/

namespace Sys2Proof.Machine

/-! ### The check update -/

/-- MIN of a row's other messages: one of their magnitudes, and none is smaller (R804). -/
theorem minMagnitude_spec {others : List Int} (h : others ≠ []) :
    (others.map Int.natAbs).min?.getD 0 ∈ others.map Int.natAbs ∧
      ∀ x ∈ others, (others.map Int.natAbs).min?.getD 0 ≤ x.natAbs := by
  have hsome : (others.map Int.natAbs).min? = some ((others.map Int.natAbs).min?.getD 0) := by
    cases hmin : (others.map Int.natAbs).min? with
    | none => exact absurd (List.map_eq_nil_iff.mp (List.min?_eq_none_iff.mp hmin)) h
    | some m => rfl
  obtain ⟨hmem, hle⟩ := List.min?_eq_some_iff.mp hsome
  exact ⟨hmem, fun x hx => hle _ (List.mem_map_of_mem hx)⟩

/-- The message of edge `e` of a row (R804). -/
theorem checkUpdate_getElem? (scale offset : Nat) {q : List Int} {e : Nat} (he : e < q.length) :
    (checkUpdate scale offset q)[e]? = some (checkMessage scale offset (q.eraseIdx e)) := by
  simp [checkUpdate, he]

/-- Where the other messages lie in [-127, 127] and SCALE is at most 8, so does the new one (R801, R804). -/
theorem checkMessage_bounds {scale : Nat} (offset : Nat) {others : List Int} (h : others ≠ []) (hscale : scale ≤ 8)
    (hall : ∀ x ∈ others, -127 ≤ x ∧ x ≤ 127) :
    -127 ≤ checkMessage scale offset others ∧ checkMessage scale offset others ≤ 127 := by
  obtain ⟨x, hx, hmn⟩ := List.mem_map.mp (minMagnitude_spec h).1
  obtain ⟨hlo, hhi⟩ := hall x hx
  have hmul : x.natAbs * scale ≤ 127 * 8 := Nat.mul_le_mul (by omega) hscale
  have hmag : (x.natAbs : Int) * (scale : Int) / 2 ^ 3 ≤ 127 := by
    rw [← Nat.cast_mul]
    omega
  simp only [checkMessage, ← hmn, asr]
  split <;> omega

/-- Every row of two messages or more has another message for each edge. -/
theorem eraseIdx_ne_nil {q : List Int} (hq : 2 ≤ q.length) {e : Nat} (he : e < q.length) : q.eraseIdx e ≠ [] := by
  refine List.ne_nil_of_length_pos ?_
  rw [List.length_eraseIdx_of_lt he]
  omega

/-! ### The variable update -/

/-- Two lists of one length, combined place by place. -/
theorem map_range_getD_eq_zipWith {α β γ : Type} (f : α → β → γ) {xs : List α} {ys : List β} (h : xs.length = ys.length)
    (a : α) (b : β) : ((List.range xs.length).map fun n => f (xs.getD n a) (ys.getD n b)) = List.zipWith f xs ys := by
  refine List.ext_getElem (by simp [h]) fun n hn _ => ?_
  have hx : n < xs.length := by simpa using hn
  have hy : n < ys.length := h ▸ hx
  simp [hx, hy]

/-- What the edges of one row add to S[v] (R805). -/
def rowSum (v : Nat) (row : List Nat) (m : List Int) : Int := (List.zipWith (fun u x => if u = v then x else 0) row m).sum

/-- The messages of `v` in one row sum to what the row adds (R805). -/
theorem sum_messages_of_row (v : Nat) (row : List Nat) (m : List Int) :
    (((row.zip m).filter fun (u, _) => u == v).map Prod.snd).sum = rowSum v row m := by
  induction row generalizing m with
  | nil => rfl
  | cons u row ih =>
    cases m with
    | nil => rfl
    | cons x m =>
      by_cases huv : u = v
      · simpa [rowSum, huv] using ih m
      · simpa [rowSum, huv] using ih m

/-- The messages of `v` sum to what the rows add, one row after another (R800, R805). -/
theorem variableMessages_sum {rows : List (List Nat)} {r : List (List Int)} (h : r.map List.length = rows.map List.length)
    (v : Nat) : (variableMessages rows r v).sum = (List.zipWith (rowSum v) rows r).sum := by
  induction rows generalizing r with
  | nil => rfl
  | cons row rows ih =>
    cases r with
    | nil => cases h
    | cons m r =>
      obtain ⟨hrow, hrest⟩ := List.cons.inj h
      have hsplit : variableMessages (row :: rows) (m :: r) v =
          ((row.zip m).filter fun (u, _) => u == v).map Prod.snd ++ variableMessages rows r v := by
        simp only [variableMessages, List.flatten_cons, List.zip_append hrow.symm, List.filter_append, List.map_append]
      rw [hsplit, List.sum_append, sum_messages_of_row, ih hrest, List.zipWith_cons_cons, List.sum_cons]

/-- The messages of `v` summed, row by row and edge by edge (R800, R805). -/
theorem variableMessages_sum_eq_range {rows : List (List Nat)} {r : List (List Int)}
    (h : r.map List.length = rows.map List.length) (v : Nat) :
    (variableMessages rows r v).sum =
      ((List.range rows.length).map fun m =>
        ((List.range (rows.getD m []).length).map fun e =>
          if (rows.getD m []).getD e 0 = v then (r.getD m []).getD e 0 else 0).sum).sum := by
  have hrows : rows.length = r.length := by simpa using (congrArg List.length h).symm
  rw [variableMessages_sum h, ← map_range_getD_eq_zipWith _ hrows [] []]
  refine congrArg List.sum (List.map_congr_left fun m hm => ?_)
  have hin : m < rows.length := List.mem_range.mp hm
  have hin' : m < r.length := hrows ▸ hin
  have hrow : (rows.getD m []).length = (r.getD m []).length := by
    rw [List.getD_eq_getElem _ _ hin, List.getD_eq_getElem _ _ hin']
    simpa [hin, hin'] using (congrArg (·[m]?) h).symm
  exact congrArg List.sum (map_range_getD_eq_zipWith (fun u x => if u = v then x else 0) hrow 0 0).symm

/-- A variable has a message for each of its edges (R800). -/
theorem variableMessages_length {rows : List (List Nat)} {r : List (List Int)}
    (h : r.map List.length = rows.map List.length) (v : Nat) : (variableMessages rows r v).length = rows.flatten.count v := by
  have hflat : rows.flatten.length ≤ r.flatten.length := by rw [List.length_flatten, List.length_flatten, h]
  calc (variableMessages rows r v).length
      = (rows.flatten.zip r.flatten).countP fun (u, _) => u == v := by
        rw [variableMessages, List.length_map, List.countP_eq_length_filter]
    _ = ((rows.flatten.zip r.flatten).map Prod.fst).count v := by rw [List.count, List.countP_map]; rfl
    _ = rows.flatten.count v := by rw [List.map_fst_zip hflat]

/-- The messages of a variable are messages of edges (R805). -/
theorem mem_flatten_of_mem_variableMessages {rows : List (List Nat)} {r : List (List Int)} {v : Nat} {x : Int}
    (h : x ∈ variableMessages rows r v) : x ∈ r.flatten := by
  obtain ⟨⟨u, y⟩, hmem, rfl⟩ := List.mem_map.mp h
  exact (List.of_mem_zip (List.mem_filter.mp hmem).1).2

/-- At most `d` values within [-127, 127] sum to a value within 127·d. -/
theorem sum_bounds {xs : List Int} {d : Nat} (hlen : xs.length ≤ d) (h : ∀ x ∈ xs, -127 ≤ x ∧ x ≤ 127) :
    -(127 * (d : Int)) ≤ xs.sum ∧ xs.sum ≤ 127 * (d : Int) := by
  have hlow := List.card_nsmul_le_sum xs (-127) fun x hx => (h x hx).1
  have hhigh := List.sum_le_card_nsmul xs 127 fun x hx => (h x hx).2
  rw [nsmul_eq_mul] at hlow hhigh
  omega

/-- S[v] is the channel value of `v` and its messages, summed (R805). -/
theorem variableSums_getElem? (rows : List (List Nat)) {l : List Int} (r : List (List Int)) {v : Nat} (hv : v < l.length) :
    (variableSums rows l r)[v]? = some (l[v] + (variableMessages rows r v).sum) := by
  simp [variableSums, hv]

/-- q[e] is S[var(e)] - r[e], clamped (R805). -/
theorem variableUpdate_getElem? (sums : List Int) {row : List Nat} {r : List Int} (h : r.length = row.length) {e : Nat}
    (he : e < row.length) :
    (variableUpdate sums row r)[e]? = some (max (-127) (min 127 (sums.getD (row.getD e 0) 0 - r.getD e 0))) := by
  have her : e < r.length := h ▸ he
  rw [variableUpdate, List.getElem?_zipWith, List.getElem?_eq_getElem he, List.getElem?_eq_getElem her,
    List.getD_eq_getElem _ _ he, List.getD_eq_getElem _ _ her]
  exact congrArg some (clamp_eq_max_min _ (-127) 127 (by decide))

/-- Settles O50: the check messages by MIN over the others, the sums row by row, and the clamp edge by edge. -/
theorem checkUpdateIsMinSum : Obligations.CheckUpdateIsMinSum := by
  refine ⟨fun scale offset q hq => ⟨checkUpdate_length scale offset q, fun e he => ?_, fun hscale hall m hm => ?_⟩,
    fun rows l r hr => ⟨variableSums_length rows l r, fun v hv => ?_⟩,
    fun sums row r hr => ⟨by simp [variableUpdate, hr], fun e he => variableUpdate_getElem? sums hr he⟩, fun _ => rfl⟩
  · obtain ⟨hmem, hmin⟩ := minMagnitude_spec (eraseIdx_ne_nil hq he)
    refine ⟨_, hmem, hmin, ?_⟩
    rw [checkUpdate_getElem? scale offset he, Nat.cast_mul]
    rfl
  · obtain ⟨e, he, rfl⟩ := List.mem_map.mp hm
    have hother := eraseIdx_ne_nil hq (List.mem_range.mp he)
    exact checkMessage_bounds offset hother hscale fun x hx => hall x (List.mem_of_mem_eraseIdx hx)
  · intro ofRow total
    have htotal : total = l[v] + (variableMessages rows r v).sum := by rw [variableMessages_sum_eq_range hr]
    rw [htotal]
    refine ⟨variableSums_getElem? rows r hv, fun d hd hl hmsg => ?_⟩
    obtain ⟨hlow, hhigh⟩ := hl _ (List.getElem_mem hv)
    have hsum := sum_bounds ((variableMessages_length hr v).trans_le hd) fun x hx =>
      hmsg x (mem_flatten_of_mem_variableMessages hx)
    omega

/-! ### The flooding loop -/

/-- An XOR of bits, from `a` on, is 1 iff an odd number of `a` and them is 1. -/
theorem foldl_xor_eq (bits : List Bool) (a : Bool) : bits.foldl Bool.xor a = (a ^^ decide (bits.count true % 2 = 1)) := by
  induction bits generalizing a with
  | nil => simp
  | cons b bits ih =>
    rw [List.foldl_cons, ih]
    cases b with
    | false => simp
    | true =>
      have hflip : decide ((bits.count true + 1) % 2 = 1) = !decide (bits.count true % 2 = 1) := by
        rw [← decide_not]
        exact decide_eq_decide.mpr (by omega)
      rw [List.count_cons_self, hflip]
      cases a <;> simp

/-- The syndrome is zero iff the bits of every row XOR to 0 (R806). -/
theorem syndromeZero_iff (rows : List (List Nat)) (c : List Bool) :
    syndromeZero rows c = true ↔ ∀ row ∈ rows, (row.map fun v => c.getD v false).foldl Bool.xor false = false := by
  refine List.all_eq_true.trans (forall₂_congr fun row _ => ?_)
  have hcount : (row.map fun v => c.getD v false).count true = row.countP fun v => c.getD v false := by
    rw [List.count, List.countP_map]
    exact List.countP_congr fun v _ => by simp
  rw [foldl_xor_eq, hcount, Bool.false_xor, decide_eq_false_iff_not, beq_iff_eq]
  omega

section
variable (rows : List (List Nat)) (scale offset : Nat) (l : List Int)

/-- The sums of an iteration that starts from the messages q (R804, R805). -/
def iterationSums (q : List (List Int)) : List Int := variableSums rows l (q.map (checkUpdate scale offset))

/-- The messages q after an iteration (R804, R805). -/
def nextMessages (q : List (List Int)) : List (List Int) :=
  List.zipWith (variableUpdate (iterationSums rows scale offset l q)) rows (q.map (checkUpdate scale offset))

/-- The bits after `n` iterations from the messages q and the bits c (R803, R805). -/
def bitsAfter (q : List (List Int)) (c : List Bool) : Nat → List Bool
  | 0 => c
  | n + 1 => decisions (iterationSums rows scale offset l ((nextMessages rows scale offset l)^[n] q))

/-- One iteration first, then the others. -/
theorem bitsAfter_succ (q : List (List Int)) (c : List Bool) (n : Nat) :
    bitsAfter rows scale offset l q c (n + 1) =
      bitsAfter rows scale offset l (nextMessages rows scale offset l q)
        (decisions (iterationSums rows scale offset l q)) n := by
  cases n <;> rfl

/-- An iteration of the loop: it ends where the new bits satisfy every check (R807). -/
theorem decodeLoop_succ (left it : Nat) (q : List (List Int)) (c : List Bool) :
    decodeLoop rows scale offset l (left + 1) it q c =
      if syndromeZero rows (decisions (iterationSums rows scale offset l q)) then
        { success := true, iters := it + 1, bits := decisions (iterationSums rows scale offset l q) }
      else
        decodeLoop rows scale offset l left (it + 1) (nextMessages rows scale offset l q)
          (decisions (iterationSums rows scale offset l q)) := rfl

/-- `d` is the result of a run that stops after `n` of at most `left` iterations, `bits j` being the bits after `j` of them: no
bits before the last satisfied every check, success says whether the last do, and a failure has taken every iteration (R803,
R807). -/
structure StopsAfter (bits : Nat → List Bool) (left n : Nat) (d : DecodeResult) : Prop where
  le : n ≤ left
  bits_eq : d.bits = bits n
  unsatisfied : ∀ j, j < n → syndromeZero rows (bits j) = false
  success_eq : d.success = syndromeZero rows (bits n)
  all_of_failure : d.success = false → n = left

/-- The loop stops at the first zero syndrome, or once no iteration is left (R807). -/
theorem decodeLoop_stopsAfter (left it : Nat) (q : List (List Int)) {c : List Bool} (hc : syndromeZero rows c = false) :
    ∃ n, (decodeLoop rows scale offset l left it q c).iters = it + n ∧
      StopsAfter rows (bitsAfter rows scale offset l q c) left n (decodeLoop rows scale offset l left it q c) := by
  induction left generalizing it q c with
  | zero =>
    exact ⟨0, rfl, { le := le_refl 0, bits_eq := rfl, unsatisfied := fun _ hj => absurd hj (Nat.not_lt_zero _),
                     success_eq := hc.symm, all_of_failure := fun _ => rfl }⟩
  | succ left ih =>
    rw [decodeLoop_succ]
    cases hc' : syndromeZero rows (decisions (iterationSums rows scale offset l q)) with
    | true =>
      rw [if_pos rfl]
      refine ⟨1, rfl, { le := by omega, bits_eq := rfl, unsatisfied := fun j hj => ?_,
                        success_eq := hc'.symm, all_of_failure := fun h => nomatch h }⟩
      obtain rfl : j = 0 := by omega
      exact hc
    | false =>
      obtain ⟨n, hit, hstop⟩ := ih (it + 1) (nextMessages rows scale offset l q) hc'
      rw [if_neg Bool.false_ne_true]
      refine ⟨n + 1, by omega, { le := Nat.succ_le_succ hstop.le, bits_eq := ?_, unsatisfied := fun j hj => ?_,
                                 success_eq := ?_, all_of_failure := fun h => congrArg _ (hstop.all_of_failure h) }⟩
      · rw [bitsAfter_succ]
        exact hstop.bits_eq
      · cases j with
        | zero => exact hc
        | succ j =>
          rw [bitsAfter_succ]
          exact hstop.unsatisfied j (by omega)
      · rw [bitsAfter_succ]
        exact hstop.success_eq

/-- Decode(L) stops at the first zero syndrome, iteration 0 included, or after MAXIT iterations (R803, R807). -/
theorem ldpcDecode_stopsAfter (maxIt : Nat) :
    StopsAfter rows (bitsAfter rows scale offset l (channelMessages rows l) (decisions l)) maxIt
      (ldpcDecode rows maxIt scale offset l).iters (ldpcDecode rows maxIt scale offset l) := by
  rw [ldpcDecode]
  cases hc : syndromeZero rows (decisions l) with
  | true =>
    exact { le := Nat.zero_le _, bits_eq := rfl, unsatisfied := fun _ hj => absurd hj (Nat.not_lt_zero _),
            success_eq := hc.symm, all_of_failure := fun h => nomatch h }
  | false =>
    obtain ⟨n, hit, hstop⟩ := decodeLoop_stopsAfter rows scale offset l maxIt 0 (channelMessages rows l) hc
    rw [Nat.zero_add] at hit
    rw [if_neg Bool.false_ne_true, hit]
    exact hstop

/-- Every iteration gives a bit for every soft bit (R805). -/
theorem bitsAfter_length (q : List (List Int)) {c : List Bool} (hc : c.length = l.length) (n : Nat) :
    (bitsAfter rows scale offset l q c n).length = l.length := by
  cases n with
  | zero => exact hc
  | succ n => rw [bitsAfter, decisions_length, iterationSums, variableSums_length]

end

/-- The messages start at the channel values, clamped (R803). -/
theorem channelMessages_eq (rows : List (List Nat)) (l : List Int) :
    channelMessages rows l = rows.map fun row => row.map fun v => max (-127) (min 127 (l.getD v 0)) :=
  List.map_congr_left fun _ _ => List.map_congr_left fun _ _ => clamp_eq_max_min _ (-127) 127 (by decide)

/-- Settles O51: where the decoder stops, by `ldpcDecode_stopsAfter`. -/
theorem decoderTerminatesWithinMaxIt : Obligations.DecoderTerminatesWithinMaxIt := by
  refine ⟨syndromeZero_iff, fun rows maxIt scale offset l => ?_⟩
  have hstop := ldpcDecode_stopsAfter rows scale offset l maxIt
  have hsuccess : (ldpcDecode rows maxIt scale offset l).success =
      syndromeZero rows (ldpcDecode rows maxIt scale offset l).bits := hstop.bits_eq ▸ hstop.success_eq
  refine ⟨⟨fun hz => if_pos hz, hstop.le, ?_, fun h => hsuccess ▸ h, fun h => ⟨hstop.all_of_failure h, hsuccess ▸ h⟩⟩, ?_⟩
  · rw [hstop.bits_eq]
    exact bitsAfter_length rows scale offset l _ (decisions_length l) _
  · intro toVariable sums next start bitsAt
    have hbits (n : Nat) : bitsAfter rows scale offset l (channelMessages rows l) (decisions l) n = bitsAt n := by
      rw [channelMessages_eq]
      cases n <;> rfl
    exact ⟨hstop.bits_eq.trans (hbits _), fun n hn => hbits n ▸ hstop.unsatisfied n hn⟩

end Sys2Proof.Machine
end

section
/-! SUPPORT. From the decoded bits to PKT_FIFO: the checksum over the trailer (R821), packet assembly and the outcome gate (R820,
R822). -/

namespace Sys2Proof.Machine

/-! ### The checksum -/

/-- Bit 15 is the most significant one (R821). -/
theorem and_0x8000_ne_zero_iff (crc : BitVec 16) : crc &&& 0x8000#16 ≠ 0#16 ↔ crc.msb = true := by
  have htop : crc &&& 0x8000#16 = if crc.getLsbD 15 then 0x8000#16 else 0#16 := BitVec.and_twoPow crc 15
  rw [htop, BitVec.msb_eq_getLsbD_last]
  cases crc.getLsbD 15 <;> decide

/-- A run of bit steps is an iterate (R821). -/
theorem crcBits_eq_iterate (n : Nat) (crc : BitVec 16) : crcBits n crc = crcBit^[n] crc := by
  induction n generalizing crc with
  | zero => rfl
  | succ n ih => exact ih (crcBit crc)

/-- One run of bit steps after another (R821). -/
theorem crcBits_add (m n : Nat) (crc : BitVec 16) : crcBits n (crcBits m crc) = crcBits (m + n) crc := by
  rw [crcBits_eq_iterate, crcBits_eq_iterate, crcBits_eq_iterate, Nat.add_comm, Function.iterate_add_apply]

/-- Bit steps that move no 1 past bit 15 only shift (R821). -/
theorem crcBits_of_lt {n : Nat} {crc : BitVec 16} (h : crc.toNat * 2 ^ n < 2 ^ 16) :
    (crcBits n crc).toNat = crc.toNat * 2 ^ n := by
  induction n generalizing crc with
  | zero => rw [crcBits, pow_zero, mul_one]
  | succ n ih =>
    rw [pow_succ', ← mul_assoc] at h ⊢
    have hlow : crc.toNat * 2 < 2 ^ 16 := (Nat.le_mul_of_pos_right _ (Nat.two_pow_pos n)).trans_lt h
    have hmsb : crc.msb = false := BitVec.msb_eq_false_iff_two_mul_lt.mpr (by omega)
    have hstep : (crcBit crc).toNat = crc.toNat * 2 := by
      rw [crcBit, hmsb, if_neg Bool.false_ne_true, BitVec.toNat_shiftLeft, Nat.shiftLeft_eq, pow_one, Nat.mod_eq_of_lt hlow]
    rw [crcBits, ih (hstep.symm ▸ h), hstep]

/-- Only 0 runs to 0 (R821). -/
theorem crcBits_eq_zero_iff (n : Nat) (crc : BitVec 16) : crcBits n crc = 0#16 ↔ crc = 0#16 := by
  refine ⟨fun h => by_contra fun hne => crcBits_ne_zero n hne h, fun h => ?_⟩
  refine BitVec.eq_of_toNat_eq ((crcBits_of_lt ?_).trans ?_) <;> simp [h]

/-- A byte in the high place, as a number. -/
theorem toNat_append_zero_byte (b : Byte) : (b ++ 0#8).toNat = b.toNat * 2 ^ 8 := by simp [toNat_append_byte]

/-- A low byte runs into the high byte in eight bit steps (R821). -/
theorem crcBits_eight_low (b : Byte) : crcBits 8 (0#8 ++ b) = b ++ 0#8 := by
  have hlow : (0#8 ++ b).toNat = b.toNat := by rw [toNat_append_byte, BitVec.toNat_zero, zero_mul, zero_add]
  have hfits : (0#8 ++ b).toNat * 2 ^ 8 < 2 ^ 16 := by
    have := b.isLt
    omega
  have hrun : (crcBits 8 (0#8 ++ b)).toNat = b.toNat * 2 ^ 8 := by rw [crcBits_of_lt hfits, hlow]
  exact BitVec.eq_of_toNat_eq (hrun.trans (toNat_append_zero_byte b).symm)

/-- Two bytes are sixteen bit steps over both of them (R821). -/
theorem crcByte_crcByte (crc : BitVec 16) (a b : Byte) : crcByte (crcByte crc a) b = crcBits 16 (crc ^^^ (a ++ b)) := by
  have hboth : (a ++ 0#8) ^^^ (0#8 ++ b) = a ++ b := by
    rw [BitVec.xor_append, BitVec.xor_zero, BitVec.zero_xor]
  rw [crcByte, crcByte, ← crcBits_eight_low b, ← crcBits_xor, crcBits_add, BitVec.xor_assoc, hboth]

/-- A packet is what the checksum covers and the two bytes of its trailer (R821). -/
theorem take_append_trailer {pkt : List Byte} (h : 2 ≤ pkt.length) :
    pkt.take (pkt.length - 2) ++ [pkt.getD (pkt.length - 2) 0, pkt.getD (pkt.length - 1) 0] = pkt := by
  have hfirst : pkt.length - 2 < pkt.length := by omega
  have hsecond : pkt.length - 2 + 1 < pkt.length := by omega
  have hplace : pkt.length - 2 + 1 = pkt.length - 1 := by omega
  conv_rhs => rw [← List.take_append_drop (pkt.length - 2) pkt, List.drop_eq_getElem_cons hfirst,
    List.drop_eq_getElem_cons hsecond, List.drop_of_length_le (by omega)]
  rw [← hplace, List.getD_eq_getElem _ _ hfirst, List.getD_eq_getElem _ _ hsecond]

/-- The checksum is right iff the CRC over what it covers is the trailer (R821). -/
theorem crcOk_iff (pkt : List Byte) :
    crcOk pkt = true ↔
      crc16 (pkt.take (pkt.length - 2)) = pkt.getD (pkt.length - 2) 0 ++ pkt.getD (pkt.length - 1) 0 := beq_iff_eq

/-- The CRC over a packet and its trailer is 0 iff the CRC over the packet is the trailer (R821). -/
theorem crc16_append_trailer_eq_zero_iff (msg : List Byte) (a b : Byte) :
    crc16 (msg ++ [a, b]) = 0#16 ↔ crc16 msg = a ++ b := by
  have hrun : crc16 (msg ++ [a, b]) = crcBits 16 (crc16 msg ^^^ (a ++ b)) := by
    rw [crc16, List.foldl_append]
    exact crcByte_crcByte _ a b
  rw [hrun, crcBits_eq_zero_iff, BitVec.xor_eq_zero_iff]

/-- Settles O52: the bit step and the byte step by their definitions, the whole packet by running the trailer through. -/
theorem crcOfWholePacketIsZero : Obligations.CrcOfWholePacketIsZero := by
  refine ⟨fun crc => ?_, fun crc b => ?_, fun _ => rfl, by decide +kernel, fun pkt hp => ⟨?_, ?_⟩⟩
  · simp only [crcBit, and_0x8000_ne_zero_iff]
  · have hhigh : b ++ 0#8 = BitVec.ofNat 16 (b.toNat * 2 ^ 8) := by
      have hfits : b.toNat * 2 ^ 8 < 2 ^ 16 := by
        have := b.isLt
        omega
      refine BitVec.eq_of_toNat_eq ((toNat_append_zero_byte b).trans ?_)
      rw [BitVec.toNat_ofNat, Nat.mod_eq_of_lt hfits]
    rw [crcByte, crcBits_eq_iterate, hhigh]
  · rw [crcOk_iff, ← BitVec.toNat_inj, toNat_append_byte]
  · rw [crcOk_iff, ← crc16_append_trailer_eq_zero_iff, take_append_trailer hp]

/-! ### Packet assembly and the outcome gate -/

/-- The bits of a number read from them, the first one highest. -/
theorem testBit_foldl_bits {bits : List Bool} {i : Nat} (h : i < bits.length) (a : Nat) :
    (bits.foldl (fun a b => 2 * a + b.toNat) a).testBit i = bits.getD (bits.length - 1 - i) false := by
  induction bits using List.reverseRecOn generalizing i with
  | nil => exact absurd h (Nat.not_lt_zero _)
  | append_singleton bits b ih =>
    rw [List.foldl_append, List.foldl_cons, List.foldl_nil, List.length_append, List.length_singleton]
    generalize bits.foldl (fun a b => 2 * a + b.toNat) a = high at ih ⊢
    cases i with
    | zero =>
      rw [Nat.testBit_zero]
      cases b <;> simp
    | succ i =>
      have hi : i < bits.length := by simpa using h
      have hhalf : (2 * high + b.toNat) / 2 = high := by
        have := b.toNat_lt
        omega
      have hplace : bits.length + 1 - 1 - (i + 1) = bits.length - 1 - i := by omega
      rw [Nat.testBit_succ, hhalf, ih hi, hplace, List.getD_append _ _ _ _ (by omega)]

/-- Bit 7 - j of a byte is bit j of the eight that it is made of (R820). -/
theorem byteOfBits_getLsbD {bits : List Bool} (hlen : bits.length = 8) {j : Nat} (hj : j < 8) :
    (byteOfBits bits).getLsbD (7 - j) = bits.getD j false := by
  have hbit := testBit_foldl_bits (bits := bits) (i := 7 - j) (by omega) 0
  have hplace : bits.length - 1 - (7 - j) = j := by omega
  rw [byteOfBits, BitVec.getLsbD_ofNat, hbit, hplace, decide_eq_true (by omega : 7 - j < 8), Bool.true_and]

/-- Byte `b` of the packet is made of the codeword's bits from 8b on (R820). -/
theorem assemblePacket_getD {p b : Nat} (bits : List Bool) (hb : b < p) :
    (assemblePacket p bits).getD b 0 = byteOfBits ((List.range 8).map fun j => bits.getD (8 * b + j) false) := by
  simp [assemblePacket, hb]

/-- Settles O53: the packet bit by bit, and the three outcomes of `State.decodeGate_cases`. -/
theorem outcomeGatePushesCheckedPackets : Obligations.OutcomeGatePushesCheckedPackets := by
  refine ⟨fun p bits => ⟨assemblePacket_length p bits, fun b j hb hj => ?_⟩, fun s c d => ?_⟩
  · rw [assemblePacket_getD bits hb, byteOfBits_getLsbD (by simp) hj]
    simp [hj]
  · rcases s.decodeGate_cases c d with ⟨hs, h⟩ | ⟨hs, hc, h⟩ | ⟨hs, hc, h⟩
    · exact ⟨fun _ => h, fun hs' => (nomatch hs.symm.trans hs'), fun hs' => (nomatch hs.symm.trans hs')⟩
    · exact ⟨fun hs' => (nomatch hs.symm.trans hs'), fun _ _ => h, fun _ hc' => (nomatch hc.symm.trans hc')⟩
    · exact ⟨fun hs' => (nomatch hs.symm.trans hs'), fun _ hc' => (nomatch hc.symm.trans hc'), fun _ _ => h⟩

end Sys2Proof.Machine
end

section
/-! SUPPORT. The conditions of the host port (60_exceptions.md): that an access sets at most one ERR bit (R903), and which requests
end in the bus error (R900). -/

namespace Sys2Proof.Machine

open Laws.RoundTrip (toNat_key toNat_prefix)

/-! ### What an access makes of ERR -/

/-- No ERR bit but that of `e` is 1 in `t` and 0 in `s`. -/
def RaisesOnly (s t : State) (e : ErrFlag) : Prop := ∀ k, ErrRaised s t k → k = e.bit

/-- Where ERR gains no bit, nothing is raised. -/
theorem RaisesOnly.of_err_le {s t : State} (h : ∀ k, t.err.getLsbD k = true → s.err.getLsbD k = true) (e : ErrFlag) :
    RaisesOnly s t e :=
  fun k ⟨hs, ht⟩ => absurd (h k ht) (Bool.eq_false_iff.mp hs)

/-- Where ERR gains at most the bit of `e`, nothing else is raised. -/
theorem RaisesOnly.of_err_eq_or {s t : State} {e : ErrFlag} (h : t.err = s.err ||| e.mask) : RaisesOnly s t e := by
  intro k ⟨hs, ht⟩
  rw [h, BitVec.getLsbD_or, hs, Bool.false_or, ErrFlag.mask_getLsbD] at ht
  exact of_decide_eq_true ht

/-- At most one ERR bit is raised, and it is not ERR.BUS. -/
def RaisesNoBus (s t : State) : Prop := ∃ e : ErrFlag, e ≠ .bus ∧ RaisesOnly s t e

/-- Where ERR gains no bit, nothing is raised. -/
theorem RaisesNoBus.of_err_le {s t : State} (h : ∀ k, t.err.getLsbD k = true → s.err.getLsbD k = true) : RaisesNoBus s t :=
  ⟨.cmdIllegal, nofun, .of_err_le h _⟩

/-- Where ERR stays, nothing is raised. -/
theorem RaisesNoBus.of_err_eq {s t : State} (h : t.err = s.err) : RaisesNoBus s t := .of_err_le fun _ hk => h ▸ hk

/-- A flag other than ERR.BUS set on its own. -/
theorem RaisesNoBus.of_err_eq_or {s t : State} {e : ErrFlag} (he : e ≠ .bus) (h : t.err = s.err ||| e.mask) :
    RaisesNoBus s t :=
  ⟨e, he, .of_err_eq_or h⟩

/-- A command that STATE allows raises nothing, but for ERR.CFG_FAIL (R510 to R541). -/
theorem commandEffect_raisesNoBus (k : Command) (s : State) : RaisesNoBus s (commandEffect k s) := by
  cases k with
  | nop | resync | clearCounters | flushPackets => exact .of_err_eq rfl
  | softReset => exact .of_err_le fun k hk => absurd hk (Bool.eq_false_iff.mp BitVec.getLsbD_zero)
  | configure =>
    rcases s.configure_cases with ⟨-, h⟩ | ⟨-, h⟩ <;> rw [commandEffect, h]
    · exact .of_err_eq rfl
    · exact .of_err_eq_or (e := .cfgFail) nofun rfl
  | start => rcases s.start_cases with ⟨c, -, h⟩ | ⟨-, h⟩ <;> rw [commandEffect, h] <;> exact .of_err_eq rfl
  | stop => rcases s.stop_cases with ⟨c, -, h⟩ | ⟨-, h⟩ <;> rw [commandEffect, h] <;> exact .of_err_eq rfl

/-- A refused command sets ERR.CMD_STATE alone (R501). -/
theorem performCommand_raisesNoBus (k : Command) (s : State) : RaisesNoBus s (performCommand k s) := by
  rcases performCommand_cases s k with ⟨-, h⟩ | ⟨-, h⟩ <;> rw [h]
  · exact commandEffect_raisesNoBus k s
  · exact .of_err_eq_or (e := .cmdState) nofun rfl

/-- An illegal CMD word sets ERR.CMD_ILLEGAL alone (R500). -/
theorem executeCommand_raisesNoBus (w : Word) (s : State) : RaisesNoBus s (executeCommand w s) := by
  unfold executeCommand
  split
  · exact performCommand_raisesNoBus _ s
  · exact .of_err_eq_or (e := .cmdIllegal) nofun rfl

/-- An H_DATA write sets ERR.H_STATE or ERR.H_RANGE, or neither (R411). -/
theorem State.writeHData_raisesNoBus (w : Word) (s : State) : RaisesNoBus s (s.writeHData w) := by
  rcases s.writeHData_cases w with ⟨-, h⟩ | ⟨-, -, h⟩ | ⟨-, -, h⟩ <;> rw [h]
  · exact .of_err_eq_or (e := .hState) nofun rfl
  · exact .of_err_eq_or (e := .hRange) nofun rfl
  · exact .of_err_eq rfl

/-- A SAMPLE_DATA write sets ERR.SAMP_STATE or ERR.SAMP_OVERFLOW, or neither (R420). -/
theorem State.writeSampleData_raisesNoBus (w : Word) (s : State) : RaisesNoBus s (s.writeSampleData w) := by
  rcases s.writeSampleData_cases w with ⟨-, h⟩ | ⟨c, -, h⟩ <;> rw [h]
  · exact .of_err_eq_or (e := .sampState) nofun rfl
  · rcases s.acceptSampleWord_cases c w with ⟨-, h⟩ | ⟨-, h⟩ <;> rw [h]
    · exact .of_err_eq_or (e := .sampOverflow) nofun rfl
    · exact .of_err_eq rfl

/-- A write to ERR sets no bit (R407). -/
theorem State.clearErr_raisesNoBus (w : Word) (s : State) : RaisesNoBus s (s.clearErr w) := by
  refine .of_err_le fun k hk => ?_
  rw [State.clearErr_err, BitVec.getLsbD_and] at hk
  exact Bool.and_elim_left hk

/-! ### An access answered with OKAY, or the bus error -/

/-- `t` answers an access to `s` with OKAY, and of ERR it raises at most one bit, which is not ERR.BUS. -/
structure AnsweredOkay (s t : State) : Prop where
  reply : ∃ v, t.reply = some { resp := .okay, rdata := v }
  err : RaisesNoBus s t

/-- The answer to a read, after what the read does to ERR (R204). -/
theorem AnsweredOkay.read {s t : State} (h : RaisesNoBus s t) (v : Word) : AnsweredOkay s (t.answerRead v) := ⟨⟨_, rfl⟩, h⟩

/-- The answer to a write, after what the write does to ERR (R204). -/
theorem AnsweredOkay.write {s t : State} (h : RaisesNoBus s t) : AnsweredOkay s t.answerWrite := ⟨⟨_, rfl⟩, h⟩

/-- A read of H_DATA sets ERR.H_RANGE or nothing (R412). -/
theorem execRdHData_okay (s : State) : ∃ t, execRdHData s = .next t ∧ AnsweredOkay s t := by
  unfold execRdHData
  split
  · exact ⟨_, rfl, .read (.of_err_eq_or (e := .hRange) nofun rfl) _⟩
  · exact ⟨_, rfl, .read (.of_err_eq rfl) _⟩

/-- A read of PKT_DATA sets ERR.PKT_UNDERFLOW or nothing (R430). -/
theorem execRdPktData_okay (s : State) : ∃ t, execRdPktData s = .next t ∧ AnsweredOkay s t := by
  unfold execRdPktData
  split
  · exact ⟨_, rfl, .read (.of_err_eq_or (e := .pktUnderflow) nofun rfl) _⟩
  · exact ⟨_, rfl, .read (.of_err_eq s.advancePacket_err) _⟩

/-- The access of an instruction that is a reserved or misaligned row (R106, R900); no other row has one. -/
def busErrorAccess : Instr → Option Access
  | .reserved05C a | .reserved06C a | .reserved07C a | .reserved0B4 a | .reserved0B8 a | .reserved0BC a | .reserved0EC a
  | .reserved0F0 _ a | .reserved100 _ a | .reserved200 _ a | .reserved400 _ a | .reserved800 _ a
  | .misaligned1 _ a | .misaligned2 _ a | .misaligned3 _ a => some a
  | _ => none

/-- A reserved or misaligned row is the bus error, and every other row is answered with OKAY (R900). -/
theorem exec_busErrorAccess (i : Instr) (s : State) :
    (∀ a, busErrorAccess i = some a → exec i s = .next (s.busError a)) ∧
      (busErrorAccess i = none → ∃ t, exec i s = .next t ∧ AnsweredOkay s t) := by
  cases i with
  | reserved05C | reserved06C | reserved07C | reserved0B4 | reserved0B8 | reserved0BC | reserved0EC | reserved0F0
  | reserved100 | reserved200 | reserved400 | reserved800 | misaligned1 | misaligned2 | misaligned3 =>
    exact ⟨fun _ ha => Option.some.inj ha ▸ rfl, nofun⟩
  | nop | softReset | configure | start | stop | resync | clearCounters | flushPackets =>
    exact ⟨nofun, fun _ => ⟨_, rfl, .write (performCommand_raisesNoBus _ s)⟩⟩
  | cmdIllegal => exact ⟨nofun, fun _ => ⟨_, rfl, .write (.of_err_eq_or (e := .cmdIllegal) nofun rfl)⟩⟩
  | wrCmd w => exact ⟨nofun, fun _ => ⟨_, rfl, .write (executeCommand_raisesNoBus w s)⟩⟩
  | wrErr w => exact ⟨nofun, fun _ => ⟨_, rfl, .write (s.clearErr_raisesNoBus w)⟩⟩
  | wrHData w => exact ⟨nofun, fun _ => ⟨_, rfl, .write (s.writeHData_raisesNoBus w)⟩⟩
  | wrSampleData w => exact ⟨nofun, fun _ => ⟨_, rfl, .write (s.writeSampleData_raisesNoBus w)⟩⟩
  | rdHData => exact ⟨nofun, fun _ => execRdHData_okay s⟩
  | rdPktData => exact ⟨nofun, fun _ => execRdPktData_okay s⟩
  -- reads without side effect, ignored writes, and writes of registers other than CMD and ERR
  | _ => exact ⟨nofun, fun _ => ⟨_, rfl, ⟨_, rfl⟩, .of_err_eq rfl⟩⟩

/-- A host operation has one flag that alone it can raise (R903). -/
theorem runHost_raisesOnly (op : HostOp) (s : State) : ∃ t e, runHost op s = .next t ∧ RaisesOnly s t e := by
  have hbus (a : Access) : RaisesOnly s (s.busError a) .bus := .of_err_eq_or (s.busError_err a)
  rcases runHost_cases op s with ⟨i, -, h⟩ | ⟨r, -, -, h⟩ <;> rw [h]
  · obtain ⟨hbusError, hokay⟩ := exec_busErrorAccess i s
    cases hrow : busErrorAccess i with
    | some a => exact ⟨_, _, hbusError a hrow, hbus a⟩
    | none =>
      obtain ⟨t, ht, -, e, -, he⟩ := hokay hrow
      exact ⟨t, e, ht, he⟩
  · exact ⟨_, _, rfl, hbus r.access⟩

/-- Settles O31: two bits that an access raises are both the bit of its one flag. -/
theorem oneErrBitPerAccess : Obligations.OneErrBitPerAccess := by
  intro op s t h j k hj hk
  obtain ⟨u, e, hu, he⟩ := runHost_raisesOnly op s
  cases hu.symm.trans h
  exact (he j hj).trans (he k hk).symm

/-! ### The keys that end in the bus error -/

/-- An aligned offset of a register or of SPEC (R203, R900). -/
def LegalKey (off : BitVec 13) : Prop := off.toNat % 4 = 0 ∧ (RegisterOffset off.toNat ∨ 0x1000 ≤ off.toNat)

/-- A legal request has size 4 and a legal key (R900). -/
theorem legalRequest_iff (r : Request) : LegalRequest r ↔ r.size = 4 ∧ LegalKey r.off := Iff.rfl

/-- The row of a key is a reserved or misaligned one exactly where the key is not legal (R102, R106). -/
theorem busErrorAccess_of_encode {i : Instr} {off : BitVec 13} {a : Access} (hi : encode i = busAccess off a) :
    (LegalKey off ∧ busErrorAccess i = none) ∨ (¬ LegalKey off ∧ busErrorAccess i = some a) := by
  cases i with
  | nop | softReset | configure | start | stop | resync | clearCounters | flushPackets | cmdIllegal => cases a <;> cases hi
  | reserved05C | reserved06C | reserved07C | reserved0B4 | reserved0B8 | reserved0BC | reserved0EC =>
    obtain ⟨rfl, rfl⟩ := busAccess_inj hi
    exact .inr ⟨by simp [LegalKey, RegisterOffset], rfl⟩
  | reserved0F0 j | reserved100 j | reserved200 j | reserved400 j | reserved800 j =>
    obtain ⟨rfl, rfl⟩ := busAccess_inj hi
    refine .inr ⟨fun ⟨_, hlisted⟩ => ?_, rfl⟩
    have hj := j.isLt
    rw [RegisterOffset, toNat_prefix] at hlisted
    simp only [BitVec.toNat_ofNat] at hlisted
    omega
  | misaligned1 | misaligned2 | misaligned3 =>
    obtain ⟨rfl, rfl⟩ := busAccess_inj hi
    refine .inr ⟨fun ⟨haligned, _⟩ => ?_, rfl⟩
    rw [toNat_key] at haligned
    simp only [BitVec.toNat_ofNat] at haligned
    omega
  | rdSpec k | wrSpec k =>
    cases a <;> cases hi
    refine .inl ⟨?_, rfl⟩
    rw [LegalKey, toNat_prefix]
    simp only [BitVec.toNat_ofNat]
    omega
  -- the registers
  | _ =>
    cases a <;> cases hi
    exact .inl ⟨by simp [LegalKey, RegisterOffset], rfl⟩

/-- The bus error of a request, in the words of R900. -/
theorem State.busError_access (r : Request) (s : State) :
    s.busError r.access = { s with err := s.err ||| 0x100#9, reply := errorReply r.kind } := by
  rw [Request.access]
  cases r.kind with
  | read => exact s.busError_read
  | write => exact s.busError_write r.wdata

/-- A request of size 4 decodes to the row of its key (R300). -/
theorem decode_of_size {r : Request} (h : r.size = 4) : decode (.bus r) = .ok (decodeKey r.off r.access) := if_pos h

/-- A request of another size, or of a key that is not legal, ends in the bus error (R900). -/
theorem runHost_of_not_legalRequest {r : Request} (h : ¬ LegalRequest r) (s : State) :
    runHost (.bus r) s = .next (s.busError r.access) := by
  by_cases hsize : r.size = 4
  · rw [runHost_of_decode (decode_of_size hsize)]
    rcases busErrorAccess_of_encode (encode_decodeKey r.off r.access) with ⟨hlegal, -⟩ | ⟨-, hrow⟩
    · exact absurd ((legalRequest_iff r).mpr ⟨hsize, hlegal⟩) h
    · exact (exec_busErrorAccess _ s).1 _ hrow
  · rw [runHost, decode, if_neg hsize]

/-- A legal request is answered with OKAY (R400). -/
theorem runHost_of_legalRequest {r : Request} (h : LegalRequest r) (s : State) :
    ∃ t, runHost (.bus r) s = .next t ∧ AnsweredOkay s t := by
  obtain ⟨hsize, hlegal⟩ := (legalRequest_iff r).mp h
  rw [runHost_of_decode (decode_of_size hsize)]
  rcases busErrorAccess_of_encode (encode_decodeKey r.off r.access) with ⟨-, hrow⟩ | ⟨hnot, -⟩
  · exact (exec_busErrorAccess _ s).2 hrow
  · exact absurd hlegal hnot

/-- An access that raises at most one bit, which is not ERR.BUS, does not raise ERR.BUS. -/
theorem RaisesNoBus.not_errRaised_bus {s t : State} (h : RaisesNoBus s t) : ¬ ErrRaised s t 8 := by
  obtain ⟨e, hne, he⟩ := h
  intro hbus
  have hbit := he 8 hbus
  cases e with
  | bus => exact hne rfl
  | _ => cases hbit

/-- Settles O6: a request's size and key decide between the bus error and an OKAY answer, and the fifteen rows are the bus error. -/
theorem busErrorExactlyOnIllegalRequests : Obligations.BusErrorExactlyOnIllegalRequests := by
  refine ⟨fun r s => ⟨fun h => ?illegal, fun h => ?legal⟩, ?rows⟩
  case illegal => rw [runHost_of_not_legalRequest h, State.busError_access]
  case legal =>
    obtain ⟨t, ht, ⟨v, hv⟩, herr⟩ := runHost_of_legalRequest h s
    exact ⟨t, v, ht, hv, herr.not_errRaised_bus⟩
  case rows =>
    refine ⟨?_, ?_, ?_, ?_, ?_, ?_, ?_, fun j => ?_, fun j => ?_, fun j => ?_, fun j => ?_, fun j => ?_, fun h => ?_, fun h => ?_,
      fun h => ?_⟩
    all_goals exact fun _ => ⟨rfl, fun _ => rfl⟩

end Sys2Proof.Machine
end

section
/-! SUPPORT. The configuration checks (R906): a chain of checks gives the least one that fails, and Validate is such a chain. -/

namespace Sys2Proof.Machine

/-! ### A chain of checks -/

/-- `code` is the least check from `lo` on and below `hi` that fails, or 0 where none of them does. -/
def LeastFailing (fails : Nat → Prop) (lo hi code : Nat) : Prop :=
  (code = 0 ∧ ∀ k, lo ≤ k → k < hi → ¬ fails k) ∨
    (lo ≤ code ∧ code < hi ∧ fails code ∧ ∀ k, lo ≤ k → k < code → ¬ fails k)

/-- Where no check is left, the code is 0. -/
theorem LeastFailing.nil {fails : Nat → Prop} {hi : Nat} : LeastFailing fails hi hi 0 := .inl ⟨rfl, by omega⟩

/-- Where no check below `mid` fails, the code is that of the checks from `mid` on. -/
theorem LeastFailing.of_passed {fails : Nat → Prop} {lo mid hi code : Nat} (hle : lo ≤ mid)
    (hpassed : ∀ k, lo ≤ k → k < mid → ¬ fails k) (h : LeastFailing fails mid hi code) : LeastFailing fails lo hi code := by
  have hboth {P : Nat → Prop} (hP : ∀ k, mid ≤ k → P k → ¬ fails k) (k : Nat) (hk : lo ≤ k) (hPk : P k) : ¬ fails k := by
    rcases Nat.lt_or_ge k mid with hlt | hge
    · exact hpassed k hk hlt
    · exact hP k hge hPk
  rcases h with ⟨hzero, hnone⟩ | ⟨hmid, hhi, hfail, hleast⟩
  · exact .inl ⟨hzero, hboth hnone⟩
  · exact .inr ⟨hle.trans hmid, hhi, hfail, hboth hleast⟩

/-- One check in front of the checks after it, which may rely on it (R906). -/
theorem LeastFailing.check {fails : Nat → Prop} {lo hi rest : Nat} {p : Prop} [Decidable p] (hlt : lo < hi) (hp : p ↔ fails lo)
    (h : ¬ p → LeastFailing fails (lo + 1) hi rest) : LeastFailing fails lo hi (if p then lo else rest) := by
  split
  · exact .inr ⟨le_rfl, hlt, hp.mp ‹_›, by omega⟩
  · refine (h ‹_›).of_passed (Nat.le_succ lo) fun k hlo hk => ?_
    rw [Nat.le_antisymm (Nat.le_of_lt_succ hk) hlo]
    exact hp.not.mp ‹_›

/-- A chain of checks that gives 0 has passed: its checks are numbered from 1 on. -/
theorem LeastFailing.passed {fails : Nat → Prop} {lo hi : Nat} (hlo : 0 < lo) (h : LeastFailing fails lo hi 0) :
    ∀ k, lo ≤ k → k < hi → ¬ fails k := by
  rcases h with ⟨-, hnone⟩ | ⟨hle, -⟩
  · exact hnone
  · exact absurd hle (Nat.not_le.mpr hlo)

/-- A chain that gives a code other than 0 is not read further. -/
theorem LeastFailing.mono {fails : Nat → Prop} {lo mid hi code : Nat} (hle : mid ≤ hi) (hne : code ≠ 0)
    (h : LeastFailing fails lo mid code) : LeastFailing fails lo hi code := by
  rcases h with ⟨hzero, -⟩ | ⟨hlo, hmid, hrest⟩
  · exact absurd hzero hne
  · exact .inr ⟨hlo, hmid.trans_le hle, hrest⟩

/-! ### The 23 checks -/

/-- Half of a positive power of two has no rounding, so that its negation may be taken first. -/
theorem neg_two_pow_div_two {l : Nat} (h : l ≠ 0) : -((2 ^ l : Nat) : Int) / 2 = -(((2 ^ l : Nat) : Int) / 2) :=
  Int.neg_ediv_of_dvd (Int.natCast_dvd_natCast.mpr (dvd_pow_self 2 h))

/-- A row has a duplicate iff its variables are not pairwise distinct. -/
theorem hasDuplicate_iff (vs : List Nat) : hasDuplicate vs = true ↔ ¬ vs.Nodup := by
  induction vs with
  | nil => simp [hasDuplicate]
  | cons v vs ih => rw [hasDuplicate, Bool.or_eq_true, ih, List.contains_iff_mem, List.nodup_cons, not_and_or, not_not]

/-- A variable's entries, counted among the variables or among the entries. -/
theorem count_map_entryVar (es : List Word) (v : Nat) :
    (es.map entryVar).count v = (es.filter fun e => entryVar e == v).length := by
  rw [List.count, List.countP_map, List.countP_eq_length_filter]
  rfl

/-- Where every variable is below N_CW, the variables with more than P_DV_MAX entries need to be looked for only there (R906). -/
theorem any_range_count_iff {p : Params} {c : CfgRegs} {es : List Word}
    (h : ¬ (es.map entryVar).any (fun v => decide (c.nCw ≤ v)) = true) :
    (List.range c.nCw).any (fun v => decide (p.dvMax < (es.map entryVar).count v)) = true ↔ CheckFails p c es 22 := by
  simp only [CheckFails, List.any_eq_true, decide_eq_true_iff, List.mem_range, ← count_map_entryVar]
  refine ⟨fun ⟨v, _, hv⟩ => ⟨v, hv⟩, fun ⟨v, hv⟩ => ⟨v, ?_, hv⟩⟩
  by_contra hge
  have hmem : v ∈ es.map entryVar := List.count_pos_iff.mp (Nat.zero_lt_of_lt hv)
  exact h (List.any_eq_true.mpr ⟨v, hmem, decide_eq_true (Nat.le_of_not_lt hge)⟩)

section
variable (p : Params) (c : CfgRegs) (es : List Word)

/-- Checks 1 to 15 (R906): check 8 relies on check 6, by which FFT sizes are even. -/
theorem checkRegisters_leastFailing : LeastFailing (CheckFails p c es) 1 16 (checkRegisters p c) := by
  unfold checkRegisters
  iterate 5 refine .check (by decide) Iff.rfl fun _ => ?_
  refine .check (by decide) Iff.rfl fun hlog => ?_
  refine .check (by decide) Iff.rfl fun _ => ?_
  refine .check (by decide) ?check8 fun _ => ?_
  case check8 =>
    have hlog : c.log2Nf ≠ 0 := by omega
    rw [CheckFails, neg_two_pow_div_two hlog, CfgRegs.nf]
  iterate 7 refine .check (by decide) Iff.rfl fun _ => ?_
  exact .nil

/-- Checks 16 to 23 (R906): check 22 relies on check 17, by which every variable is below N_CW. -/
theorem checkGraph_leastFailing : LeastFailing (CheckFails p c es) 16 24 (checkGraph p c es) := by
  unfold checkGraph
  refine .check (by decide) ?check16 fun _ => .check (by decide) ?check17 fun hvar => .check (by decide) ?check18 fun _ =>
    .check (by decide) ?check19 fun _ => .check (by decide) ?check20 fun _ => .check (by decide) ?check21 fun _ =>
    .check (by decide) (any_range_count_iff hvar) fun _ => .check (by decide) Iff.rfl fun _ => .nil
  case check16 => simp [CheckFails, entryRsvZero]
  case check17 => simp [CheckFails]
  case check18 => cases h : es.getLast? <;> simp [CheckFails, h]
  case check19 => rw [List.countP_eq_length_filter, CheckFails]
  case check20 => simp [CheckFails]
  case check21 => simp [CheckFails, hasDuplicate_iff]

/-- There is no check outside 1 to 23 (R906). -/
theorem not_checkFails_of_outside {k : Nat} (h : k = 0 ∨ 24 ≤ k) : ¬ CheckFails p c es k := by
  unfold CheckFails
  split
  case h_24 => exact id
  all_goals omega

end

/-- Validate gives the least failing check of all, or 0: the graph's checks are read where the registers' give 0 (R906). -/
theorem State.validate_leastFailing (s : State) (c : CfgRegs) :
    LeastFailing (CheckFails s.par c (s.hEntries c.hCount)) 1 24 (s.validate c) := by
  have hregisters := checkRegisters_leastFailing s.par c (s.hEntries c.hCount)
  unfold State.validate
  split
  · next hzero =>
    rw [hzero] at hregisters
    exact (checkGraph_leastFailing _ _ _).of_passed (by decide) (hregisters.passed (by decide))
  · next hne => exact hregisters.mono (by decide) hne

/-- Settles O26: the least failing check from 1 to 23 is the least of all, as there is no other. -/
theorem validateIsLeastFailingCheck : Obligations.ValidateIsLeastFailingCheck := by
  intro s c
  have houtside (k : Nat) (h : k = 0 ∨ 24 ≤ k) := not_checkFails_of_outside s.par c (s.hEntries c.hCount) h
  rcases s.validate_leastFailing c with ⟨hzero, hnone⟩ | ⟨hlo, hhi, hfail, hleast⟩
  · refine .inl ⟨hzero, fun k => ?_⟩
    by_cases hin : 1 ≤ k ∧ k < 24
    · exact hnone k hin.1 hin.2
    · exact houtside k (by omega)
  · refine .inr ⟨hlo, Nat.le_of_lt_succ hhi, hfail, fun k hk => ?_⟩
    rcases k.eq_zero_or_pos with hzero | hpos
    · exact houtside k (.inl hzero)
    · exact hleast k hpos hk

end Sys2Proof.Machine
end

section
/-! SUPPORT. Right after a reset: what the host reads, the power-on turn, and the machine's invariant (R1000, R1001, R1004). -/

namespace Sys2Proof.Machine

/-! ### What reads right after a reset (R1004) -/

section

variable {t : State} (h : t.AtReset)

include h

/-- STATUS reads 0: STATE is IDLE, outside RUN there is no HOLD and no STARVED, and the framer is not Synchronized (R110). -/
theorem State.AtReset.status_eq_zero : t.status = 0 := by
  obtain ⟨hvalid, -, hlow, -⟩ := h.estimates
  have hsync : t.sync = false := by rw [State.sync, h.framer]; rfl
  have hhold : t.hold = false := by rw [State.hold, h.mode]
  have hstarved : t.starved = false := by rw [State.starved, h.mode]
  rw [State.status, h.mode, hvalid, hlow, hsync, hhold, hstarved]
  rfl

/-- IRQ_STATUS reads 0: no sticky bit is set, ERR is 0 and PKT_FIFO is empty (R113). -/
theorem State.AtReset.irqStatus_eq_zero : t.irqStatus = 0 := by
  rw [State.irqStatus, State.pktCount, h.irq, h.err, h.pktFifo]
  rfl

/-- The interrupt output is 0, as no bit of IRQ_STATUS is raised (R910). -/
theorem State.AtReset.irqOutput_eq_false : t.irqOutput = false := by
  simp [State.irqOutput, h.irqStatus_eq_zero]

/-- All of SAMP_FIFO is free, as it is empty (R131). -/
theorem State.AtReset.sampFree_eq : t.sampFree = t.par.sampDepth := by
  rw [State.sampFree, State.sampCount, h.sampFifo]
  rfl

/-- The engine is not enabled, as STATE is not RUN (R601). -/
theorem State.AtReset.engineEnabled_eq_false : t.engineEnabled = false := by
  rw [State.engineEnabled, h.mode]

end

/-! ### The power-on reset -/

/-- Settles O28: the reset state is `resetWith` of the default parameters, and what the host reads follows from `AtReset`. -/
theorem resetStateValues : Obligations.ResetStateValues := by
  have hreset : State.reset.AtReset := State.resetWith_atReset Params.default [] 0 none []
  exact ⟨hreset, rfl, hreset.status_eq_zero, hreset.irqStatus_eq_zero, hreset.irqOutput_eq_false, hreset.sampFree_eq,
    hreset.engineEnabled_eq_false, rfl⟩

/-- After a power-on reset no entry of H_MEM is written, so each holds the next draw (R130, R1001; log 6). -/
theorem State.powerOnReset_hRead (s : State) (a : Nat) : s.powerOnReset.hRead a = Config.hMemDraw (s.powerOns + 1) a :=
  s.powerOnReset.hRead_of_not_written a rfl

/-- Settles O29: the turn is `powerOnReset` with the rest of the script to come. -/
theorem powerOnTurnResets : Obligations.PowerOnTurnResets := fun s rest hscript =>
  ⟨_, step_of_script_powerOn hscript, State.resetWith_atReset s.par [] (s.powerOns + 1) none rest, rfl,
    State.powerOnReset_hRead { s with script := rest }, rfl, rfl, rfl⟩

/-! ### The invariant at reset -/

/-- The reset state of a core with legal parameters meets the invariant: there is no active configuration, H_MEM has no written
entry and both FIFOs are empty, which leaves the shadow's reserved bits and SPEC_MEM's size (R1001). -/
theorem State.resetWith_inv {p : Params} (hlegal : p.legal = true) : (State.resetWith p).Inv where
  legal := hlegal
  masked := ⟨CfgRegs.reset_masked, nofun⟩
  memory := ⟨rfl, nofun⟩
  valid := nofun
  fifos := ⟨Nat.zero_le _, Nat.zero_le _⟩
  checked := nofun
  sized := .of_empty rfl rfl
  spectrum := ⟨List.length_replicate, List.mem_cons_self⟩
  engine := nofun

/-- The default parameters are in their legal ranges (R8). -/
theorem Params.default_legal : Params.default.legal = true := by decide

/-- Settles O58: the default parameters are legal. -/
theorem invHoldsAtReset : Obligations.InvHoldsAtReset := State.resetWith_inv Params.default_legal

end Sys2Proof.Machine
end
